-- ==== Sys2Proof/Word.lean ====
section
/-! DEFINITION. The two word sizes of the core: bytes on the bus and in the general registers, 16-bit addresses, SP and PC
(00_scope.md R4, R10). -/

namespace Sys2Proof

/-- An 8-bit value; bit 0 is the least significant (00_scope.md R10). -/
abbrev Byte := BitVec 8

/-- A 16-bit value: an address, SP, PC or a register pair (00_scope.md R4). -/
abbrev Word := BitVec 16

end Sys2Proof
end

