-- ==== Sys2Proof/Config.lean ====
section
/-! DEFINITION. What the specification fixes as a parameter of the machine, and the one free value of the model. -/

namespace Sys2Proof

/-- `HALT_FUSE_CYCLES`, one full frame's worth of cycles (00_scope.md R4, 70_reset_and_hazards.md R442). -/
def Config.haltFuseCycles : Nat := 70224

/-- The value the spec suggests for the open parameter `HALT_TICK_QUANTUM` (00_scope.md R4, D16); used by the reset state only. -/
def Config.suggestedHaltTickQuantum : Nat := 4

/-- The value the spec suggests for the open parameter `INT_DISPATCH_CYCLES` (00_scope.md R4, D18); used by the reset state only. -/
def Config.suggestedIntDispatchCycles : Nat := 20

/-- FREE VALUE (log 7): what the PPU collaborator answers to a read of its register at I/O index `index` (0x40 to 0x4B) while the
state's counter `ppuEpoch` is `epoch`. The spec says only that the answer is the collaborator's: any byte (20_memory.md R62, U4). -/
opaque Config.ppuAnswer (epoch : Nat) (index : Nat) : Byte

end Sys2Proof
end

