-- ==== Sys2Proof/Machine/Bits.lean ====
section
/-! DEFINITION. Byte order and sign extension, in one place (00_scope.md R10, R12; 20_memory.md R76). -/

namespace Sys2Proof

/-- `hi(w)` = `w[15:8]` (00_scope.md R10). -/
def hiByte (w : Word) : Byte := w.extractLsb' 8 8

/-- `lo(w)` = `w[7:0]` (00_scope.md R10). -/
def loByte (w : Word) : Byte := w.extractLsb' 0 8

/-- `h ## l`: the 16-bit value of two bytes, high byte first (00_scope.md R10). -/
def pairWord (h l : Byte) : Word := h ++ l

/-- `sext_16(b)`: two's complement widening (00_scope.md R12). -/
def sext16 (b : Byte) : Word := b.signExtend 16

/-- `zext_16(b)`: widening with a zero high byte (00_scope.md R12). -/
def zext16 (b : Byte) : Word := b.zeroExtend 16

/-- The high-page address `0xFF00 + n` (30_encoding.md R94). -/
def highPage (n : Byte) : Word := 0xFF00#16 + zext16 n

end Sys2Proof
end

