-- ==== Sys2Proof/Machine/Memory.lean ====
section
/-! DEFINITION. One memory array: a list of cells in one canonical form, its read and its write. -/

namespace Sys2Proof.Machine

/-- The contents of one memory array, keyed by its element number: a list of cells in ONE canonical form, strictly rising and
with no cell holding what an unlisted element reads as (`Memory.wf`). -/
abbrev Memory := List Host.Cell

/-- What an element no cell lists reads as, for every array (DESIGN CHOICE, log 10: the spec leaves RAM at power-on open). -/
def Memory.unlisted : Byte := 0x00#8

/-- The byte at element `k`. -/
def Memory.read : Memory → Nat → Byte
  | [], _ => Memory.unlisted
  | (k, v) :: rest, x => if x < k then Memory.unlisted else if x = k then v else Memory.read rest x

/-- The array with element `x` set to `v`, again in canonical form: writing the unlisted value removes the cell. -/
def Memory.write : Memory → Nat → Byte → Memory
  | [], x, v => if v = Memory.unlisted then [] else [(x, v)]
  | (k, w) :: rest, x, v =>
    if x < k then (if v = Memory.unlisted then (k, w) :: rest else (x, v) :: (k, w) :: rest)
    else if x = k then (if v = Memory.unlisted then rest else (x, v) :: rest)
    else (k, w) :: Memory.write rest x v

/-- Every cell lies at or above `low`, the cells rise strictly, none holds the unlisted value. -/
def Memory.wfFrom : Nat → Memory → Bool
  | _, [] => true
  | low, (k, v) :: rest => decide (low ≤ k) && decide (v ≠ Memory.unlisted) && Memory.wfFrom (k + 1) rest

/-- The canonical form. -/
def Memory.wf (m : Memory) : Bool := Memory.wfFrom 0 m

/-- Every cell lies inside an array of `size` elements. -/
def Memory.within (size : Nat) : Memory → Bool
  | [] => true
  | (k, _) :: rest => decide (k < size) && Memory.within size rest

/-- The array with a list of cells written, in the order listed. -/
def Memory.writeAll : Memory → List Host.Cell → Memory
  | m, [] => m
  | m, (k, v) :: rest => Memory.writeAll (Memory.write m k v) rest

end Sys2Proof.Machine
end

