-- ==== Sys2Proof/Machine/State.lean ====
section
/-! DEFINITION. The state of the machine as plain data, the reasons a step can stop, and the state after reset
(10_state.md R20-R41, 70_reset_and_hazards.md R420-R426). -/

namespace Sys2Proof.Machine

/-- The four flags (10_state.md R23). -/
structure Flags where
  z : Bool
  n : Bool
  h : Bool
  c : Bool
deriving DecidableEq, Repr

/-- `MBC_KIND` (00_scope.md R4). -/
inductive MbcKind where
  | none | mbc1 | mbc2 | mbc3 | mbc5
deriving DecidableEq, Repr

/-- The cartridge, immutable after load: the parameters `ROM`, `MBC_KIND`, `ERAM_SIZE` of 00_scope.md R4. An element of the image
that `rom` does not list holds 0x00; `romSize` is `length(ROM)`. No step writes it (log 4). -/
structure Cartridge where
  rom      : Memory
  romSize  : Nat
  mbc      : MbcKind
  eramSize : Nat
deriving DecidableEq, Repr

/-- The two open timing parameters of the step (00_scope.md R4). No step writes them (log 5). -/
structure Params where
  haltTickQuantum   : Nat
  intDispatchCycles : Nat
deriving DecidableEq, Repr

/-- One move of the environment inside one `Tick` (00_scope.md R5, 60_exceptions.md R390): IF bits 4..0 it raises, new joypad bytes
(dpad, buttons) if it changes them, whether it sets `stopped`, and I/O bytes (index, value) that a device owns. -/
structure EnvMove where
  irq    : BitVec 5
  joypad : Option (Byte × Byte)
  stop   : Bool
  io     : List Host.Cell
deriving DecidableEq, Repr

/-- Everything the spec gives the machine (INVENTORY.md, State), and two fields of the model's own: `env` and `ppuEpoch`. -/
structure State where
  a : Byte
  b : Byte
  c : Byte
  d : Byte
  e : Byte
  h : Byte
  l : Byte
  f : Flags
  sp : Word
  pc : Word
  ime : Bool
  imePending : Bool
  halted : Bool
  stopped : Bool
  ie : Byte
  romBank : BitVec 9
  eramBank : BitVec 4
  wramBank : BitVec 3
  vramBank : BitVec 1
  ramEnable : Bool
  bankingMode : Bool
  cycles : Nat
  vram : Memory
  eram : Memory
  wram : Memory
  oam : Memory
  hram : Memory
  io : Memory
  dpad : Byte
  buttons : Byte
  cart : Cartridge
  params : Params
  env : List EnvMove
  ppuEpoch : Nat
deriving DecidableEq, Repr

/-- The two terminal faults (60_exceptions.md R380, R381; there is no other synchronous exception, R382). -/
inductive Fault where
  /-- Raised by the eleven invalid opcodes, and by nothing else: the address of the opcode and the opcode byte; the faulting
  instruction has changed nothing (60_exceptions.md R380, 47_system.md R329). Safe: the spec itself ends the run here. -/
  | invalidOpcode (addr : Word) (op : Byte)
  /-- Raised by the fetch of an instruction whose bytes would run past 0xFFFF (60_exceptions.md R381, 30_encoding.md R117).
  Safe: the spec itself ends the run here. -/
  | fetchWrap (addr : Word)
deriving DecidableEq, Repr

/-- The reasons for which there is no next state and no fault. -/
inductive Refusal where
  /-- Raised by an arm of `exec` whose instruction has no meaning yet; none is left. Safe. -/
  | notModelled (mnemonic : String)
  /-- Raised by `step` when `stopped` is set: the run is over, in a final state that is not a fault (47_system.md R326). Safe: the
  spec gives such a state no successor. -/
  | stopped
deriving DecidableEq, Repr

/-- What a meaning answers. -/
abbrev Result := Host.Outcome State Fault Refusal

/-- The open parameters of reset (00_scope.md R4): cartridge, timing parameters, `ie_reset`, `mem_reset` for each RAM, `io_reset`
for the I/O bytes that R424 does not fix; and the model's own input list and counter. -/
structure OpenParams where
  cart : Cartridge
  params : Params
  ieReset : Byte
  vram : Memory
  eram : Memory
  wram : Memory
  oam : Memory
  hram : Memory
  ioReset : Memory
  env : List EnvMove
  ppuEpoch : Nat
deriving DecidableEq, Repr

/-- The nine power-on I/O bytes that 70_reset_and_hazards.md R424 fixes. -/
def State.fixedIo : List Host.Cell :=
  [(0x00, 0xCF), (0x04, 0xAB), (0x07, 0xF8), (0x0F, 0xE1), (0x40, 0x91), (0x41, 0x85), (0x47, 0xFC), (0x48, 0xFF), (0x49, 0xFF)]

/-- The machine after reset for any value of the open parameters (70_reset_and_hazards.md R421-R426). -/
def State.resetFrom (o : OpenParams) : State where
  a := 0x01
  b := 0x00
  c := 0x13
  d := 0x00
  e := 0xD8
  h := 0x01
  l := 0x4D
  f := ⟨true, false, true, true⟩
  sp := 0xFFFE
  pc := 0x0100
  ime := false
  imePending := false
  halted := false
  stopped := false
  ie := o.ieReset
  romBank := 1
  eramBank := 0
  wramBank := 1
  vramBank := 0
  ramEnable := false
  bankingMode := false
  cycles := 0
  vram := o.vram
  eram := o.eram
  wram := o.wram
  oam := o.oam
  hram := o.hram
  io := Memory.writeAll o.ioReset State.fixedIo
  dpad := 0xFF
  buttons := 0xFF
  cart := o.cart
  params := o.params
  env := o.env
  ppuEpoch := o.ppuEpoch

/-- The values `State.reset` names for the open parameters (DESIGN CHOICE, logs 4 to 10): the base state of 95_test_vectors.md
section 2.0, a 32 KiB cartridge of zeros with no MBC and no ERAM, an idle environment. -/
def State.namedParams : OpenParams where
  cart := ⟨[], 0x8000, .none, 0⟩
  params := ⟨Config.suggestedHaltTickQuantum, Config.suggestedIntDispatchCycles⟩
  ieReset := 0x00
  vram := []
  eram := []
  wram := []
  oam := []
  hram := []
  ioReset := []
  env := []
  ppuEpoch := 0

/-- The machine right after reset (70_reset_and_hazards.md R420-R426). -/
def State.reset : State := State.resetFrom State.namedParams

end Sys2Proof.Machine
end

