-- ==== Sys2Proof/Machine/Bus.lean ====
section
/-! DEFINITION. The memory bus interface shim: the routing of a 16-bit address to a storage element, `read8`, `write8`, the
bank-register writes, OAM DMA, and the 16-bit and stack operations built from them (20_memory.md). -/

namespace Sys2Proof.Machine

/-- What a CPU address reaches under the current bank selection: a storage element, a computed or delegated register, or nothing. -/
inductive Loc where
  /-- element of the cartridge image -/
  | rom (k : Nat)
  | vram (k : Nat)
  | eram (k : Nat)
  | wram (k : Nat)
  | oam (k : Nat)
  /-- the joypad register 0xFF00 -/
  | joyp
  /-- element of the I/O array -/
  | io (k : Nat)
  /-- PPU register, by its I/O index -/
  | ppu (k : Nat)
  | hram (k : Nat)
  | ie
  /-- nothing: reads return 0xFF, writes are ignored (R71) -/
  | unmapped
deriving DecidableEq, Repr

/-- An element of the cartridge image, or nothing past its end (R52, R53). -/
def romLoc (s : State) (k : Nat) : Loc := if k < s.cart.romSize then .rom k else .unmapped

/-- The bank selection reaches an MBC3 real-time-clock register, which is not modelled: the access falls under the out-of-range case
(R70, log 15). -/
def rtcSelected (s : State) : Bool := decide (s.cart.mbc = .mbc3) && decide (8 ≤ s.eramBank.toNat)

/-- The external RAM window 0xA000-0xBFFF (R55, R70). -/
def eramLoc (s : State) (n : Nat) : Loc :=
  let off := s.eramBank.toNat * 0x2000 + (n - 0xA000)
  if s.ramEnable && decide (off < s.cart.eramSize) && !rtcSelected s then .eram off else .unmapped

/-- The work RAM window 0xC000-0xDFFF (R56). -/
def wramLoc (s : State) (n : Nat) : Loc :=
  if n < 0xD000 then .wram (n - 0xC000) else .wram (s.wramBank.toNat * 0x1000 + (n - 0xD000))

/-- The I/O page 0xFF00-0xFF7F by I/O index (R60, R61, R62). -/
def ioLoc (k : Nat) : Loc :=
  if k = 0 then .joyp else if 0x40 ≤ k && k ≤ 0x4B then .ppu k else .io k

/-- The routing of an address (R51). -/
def locate (s : State) (addr : Word) : Loc :=
  let n := addr.toNat
  if n < 0x4000 then romLoc s n
  else if n < 0x8000 then romLoc s (s.romBank.toNat * 0x4000 + (n - 0x4000))
  else if n < 0xA000 then .vram (s.vramBank.toNat * 0x2000 + (n - 0x8000))
  else if n < 0xC000 then eramLoc s n
  else if n < 0xE000 then wramLoc s n
  else if n < 0xFE00 then wramLoc s (n - 0x2000)
  else if n < 0xFEA0 then .oam (n - 0xFE00)
  else if n < 0xFF00 then .unmapped
  else if n < 0xFF80 then ioLoc (n - 0xFF00)
  else if n < 0xFFFF then .hram (n - 0xFF80)
  else .ie

/-- The value of the joypad register (60_exceptions.md R406). -/
def joypadValue (s : State) : Byte :=
  let sel := Memory.read s.io 0x00 &&& 0x30
  let dirs : Byte := if sel.getLsbD 4 then 0x0F else s.dpad &&& 0x0F
  let keys : Byte := if sel.getLsbD 5 then 0x0F else s.buttons &&& 0x0F
  0xC0 ||| sel ||| (dirs &&& keys)

/-- The byte a location reads as. -/
def readLoc (s : State) : Loc → Byte
  | .rom k => Memory.read s.cart.rom k
  | .vram k => Memory.read s.vram k
  | .eram k => Memory.read s.eram k
  | .wram k => Memory.read s.wram k
  | .oam k => Memory.read s.oam k
  | .joyp => joypadValue s
  | .io k => Memory.read s.io k
  | .ppu k => Config.ppuAnswer s.ppuEpoch k
  | .hram k => Memory.read s.hram k
  | .ie => s.ie
  | .unmapped => 0xFF

/-- `read8(addr)` (R50): no side effect (R79). -/
def read8 (s : State) (addr : Word) : Byte := readLoc s (locate s addr)

/-- The RAM-enable latch: low nibble 0xA enables (R67). -/
def ramEnableValue (v : Byte) : Bool := decide (v &&& 0x0F = 0x0A)

/-- A bank number of the given mask, 0 promoted to 1 (R67, R68, R69). -/
def promoted (v mask : Byte) : BitVec 9 :=
  if v &&& mask = 0 then 1 else (v &&& mask).setWidth 9

/-- Bank-register write, `MBC_KIND` = MBC1 (R67). -/
def mbc1Write (s : State) (n : Nat) (v : Byte) : State :=
  if n < 0x2000 then { s with ramEnable := ramEnableValue v }
  else if n < 0x4000 then { s with romBank := (s.romBank &&& 0x60) ||| promoted v 0x1F }
  else if n < 0x6000 then
    (if s.bankingMode then { s with eramBank := (v &&& 3).setWidth 4 }
     else { s with romBank := (s.romBank &&& (0x1F : BitVec 9)) ||| ((v &&& 3).setWidth 9 <<< 5) })
  else { s with bankingMode := v.getLsbD 0 }

/-- Bank-register write, `MBC_KIND` = MBC2: the spec's approximation (R69, log 14). -/
def mbc2Write (s : State) (n : Nat) (v : Byte) : State :=
  if n < 0x2000 then { s with ramEnable := ramEnableValue v }
  else if n < 0x4000 then { s with romBank := promoted v 0x0F }
  else s

/-- Bank-register write, `MBC_KIND` = MBC3 (R68). -/
def mbc3Write (s : State) (n : Nat) (v : Byte) : State :=
  if n < 0x2000 then { s with ramEnable := ramEnableValue v }
  else if n < 0x4000 then { s with romBank := promoted v 0x7F }
  else if n < 0x6000 then { s with eramBank := (v &&& 0x0F).setWidth 4 }
  else s

/-- Bank-register write, `MBC_KIND` = MBC5 (R68): no promotion. -/
def mbc5Write (s : State) (n : Nat) (v : Byte) : State :=
  if n < 0x2000 then { s with ramEnable := ramEnableValue v }
  else if n < 0x4000 then { s with romBank := v.setWidth 9 }
  else if n < 0x6000 then { s with eramBank := (v &&& 0x0F).setWidth 4 }
  else s

/-- A write to 0x0000-0x7FFF: a bank-register write, never a data store (R66-R70). `n` is the address. -/
def bankWrite (s : State) (n : Nat) (v : Byte) : State :=
  match s.cart.mbc with
  | .none => s
  | .mbc1 => mbc1Write s n v
  | .mbc2 => mbc2Write s n v
  | .mbc3 => mbc3Write s n v
  | .mbc5 => mbc5Write s n v

/-- The `i`-th byte copied by OAM DMA: `oam[i] <- read8(v * 0x100 + i)` (R86). -/
def dmaByte (v : Byte) (i : Nat) (s : State) : State :=
  { s with oam := Memory.write s.oam i (read8 s (BitVec.ofNat 16 (v.toNat * 0x100 + i))) }

/-- OAM DMA: the first `k` bytes of the copy, in increasing address order (R86). -/
def dmaCopy (v : Byte) : Nat → State → State
  | 0, s => s
  | k + 1, s => dmaByte v k (dmaCopy v k s)

/-- A write handed to the PPU collaborator (R62): 0xFF46 triggers the OAM DMA copy (R86); for the rest the core's state does not
change (U19), but what the PPU answers from now on is free again (log 7). -/
def ppuWrite (s : State) (k : Nat) (v : Byte) : State :=
  let t := if k = 0x46 then dmaCopy v 160 s else s
  { t with ppuEpoch := t.ppuEpoch + 1 }

/-- A data write to a location (R54-R65). -/
def writeLoc (s : State) (loc : Loc) (v : Byte) : State :=
  match loc with
  | .rom _ => s
  | .vram k => { s with vram := Memory.write s.vram k v }
  | .eram k => { s with eram := Memory.write s.eram k v }
  | .wram k => { s with wram := Memory.write s.wram k v }
  | .oam k => { s with oam := Memory.write s.oam k v }
  | .joyp => { s with io := Memory.write s.io 0x00 v }
  | .io k => { s with io := Memory.write s.io k v }
  | .ppu k => ppuWrite s k v
  | .hram k => { s with hram := Memory.write s.hram k v }
  | .ie => { s with ie := v }
  | .unmapped => s

/-- `write8(addr, v)` (R50, R51). -/
def write8 (s : State) (addr : Word) (v : Byte) : State :=
  if addr.toNat < 0x8000 then bankWrite s addr.toNat v else writeLoc s (locate s addr) v

/-- `read16(addr)` (R72): the low byte at the lower address, addresses modulo 65536. -/
def read16 (s : State) (addr : Word) : Word := pairWord (read8 s (addr + 1)) (read8 s addr)

/-- `write16(addr, w)` (R73): the low byte first, at the lower address. -/
def write16 (s : State) (addr : Word) (w : Word) : State :=
  write8 (write8 s addr (loByte w)) (addr + 1) (hiByte w)

/-- `push16(w)` (R74): SP down by 2, then `write16` at the new SP. -/
def push16 (s : State) (w : Word) : State := write16 { s with sp := s.sp - 2 } (s.sp - 2) w

/-- The word `pop16()` returns (R75). -/
def popWord (s : State) : Word := read16 s s.sp

/-- The state `pop16()` leaves (R75): SP up by 2. -/
def popState (s : State) : State := { s with sp := s.sp + 2 }

end Sys2Proof.Machine
end

