-- ==== Sys2Proof/Machine/Flags.lean ====
section
/-! DEFINITION. The ALU primitives as pure functions of their operands and of the incoming flags they name, each with its exact
flag outputs (40_alu_primitives.md R130-R162), and the packed flag byte F (10_state.md R24, R25). Sums and comparisons in flag
formulas are over unbounded integers (00_scope.md R11). -/

namespace Sys2Proof.Machine

/-- The packed flag byte F: Z, N, H, C in bits 7..4, bits 3..0 zero (10_state.md R24). -/
def Flags.pack (f : Flags) : Byte :=
  BitVec.ofNat 8 (f.z.toNat * 0x80 + f.n.toNat * 0x40 + f.h.toNat * 0x20 + f.c.toNat * 0x10)

/-- The four flags of a byte written to F; bits 3..0 are discarded (10_state.md R25). -/
def Flags.unpack (v : Byte) : Flags := ⟨v.getLsbD 7, v.getLsbD 6, v.getLsbD 5, v.getLsbD 4⟩

/-- `add8` (R131). -/
def add8 (a v : Byte) : Byte × Flags :=
  (a + v, ⟨decide (a + v = 0), false, decide (a.toNat % 16 + v.toNat % 16 > 0xF), decide (a.toNat + v.toNat > 0xFF)⟩)

/-- `adc8` (R132). -/
def adc8 (a v : Byte) (c : Bool) : Byte × Flags :=
  let r := BitVec.ofNat 8 (a.toNat + v.toNat + c.toNat)
  (r, ⟨decide (r = 0), false, decide (a.toNat % 16 + v.toNat % 16 + c.toNat > 0xF),
       decide (a.toNat + v.toNat + c.toNat > 0xFF)⟩)

/-- `sub8` (R133). -/
def sub8 (a v : Byte) : Byte × Flags :=
  (a - v, ⟨decide (a - v = 0), true, decide (a.toNat % 16 < v.toNat % 16), decide (a.toNat < v.toNat)⟩)

/-- `sbc8` (R134): the right-hand sides of the comparisons are not truncated. -/
def sbc8 (a v : Byte) (c : Bool) : Byte × Flags :=
  let r := BitVec.ofInt 8 ((a.toNat : Int) - v.toNat - c.toNat)
  (r, ⟨decide (r = 0), true, decide (a.toNat % 16 < v.toNat % 16 + c.toNat), decide (a.toNat < v.toNat + c.toNat)⟩)

/-- `cp8` (R135): the flags of `sub8`. -/
def cp8 (a v : Byte) : Flags := (sub8 a v).2

/-- `and8` (R136). -/
def and8 (a v : Byte) : Byte × Flags := (a &&& v, ⟨decide (a &&& v = 0), false, true, false⟩)

/-- `or8` (R137). -/
def or8 (a v : Byte) : Byte × Flags := (a ||| v, ⟨decide (a ||| v = 0), false, false, false⟩)

/-- `xor8` (R138). -/
def xor8 (a v : Byte) : Byte × Flags := (a ^^^ v, ⟨decide (a ^^^ v = 0), false, false, false⟩)

/-- `inc8` (R139): C preserved. -/
def inc8 (v : Byte) (c : Bool) : Byte × Flags :=
  (v + 1, ⟨decide (v + 1 = 0), false, decide ((v + 1).toNat % 16 = 0), c⟩)

/-- `dec8` (R140): C preserved. -/
def dec8 (v : Byte) (c : Bool) : Byte × Flags :=
  (v - 1, ⟨decide (v - 1 = 0), true, decide ((v - 1).toNat % 16 = 0xF), c⟩)

/-- `add16` (R141): Z preserved. -/
def add16 (hl v : Word) (z : Bool) : Word × Flags :=
  (hl + v, ⟨z, false, decide (hl.toNat % 0x1000 + v.toNat % 0x1000 > 0xFFF), decide (hl.toNat + v.toNat > 0xFFFF)⟩)

/-- `add_sp` (R142): H and C from the unsigned addition of the low byte of SP and the raw operand byte. -/
def addSp (sp : Word) (e : Byte) : Word × Flags :=
  (sp + sext16 e,
   ⟨false, false, decide (sp.toNat % 16 + e.toNat % 16 > 0xF), decide (sp.toNat % 0x100 + e.toNat > 0xFF)⟩)

/-- `inc16` (R143). -/
def inc16 (w : Word) : Word := w + 1

/-- `dec16` (R144). -/
def dec16 (w : Word) : Word := w - 1

/-- The low adjustment of `daa` applies (R145). -/
def daaLow (a : Byte) (n h : Bool) : Bool := h || (!n && decide (a.toNat % 16 > 0x09))

/-- The high adjustment of `daa` applies (R145). -/
def daaHigh (a : Byte) (n c : Bool) : Bool := c || (!n && decide (a.toNat > 0x99))

/-- The adjustment byte of `daa` (R145). -/
def daaAdj (a : Byte) (n h c : Bool) : Byte :=
  (if daaLow a n h then 0x06 else 0x00) ||| (if daaHigh a n c then 0x60 else 0x00)

/-- `daa` (R145): both conditions test the incoming `a`; N is preserved, H cleared, C never cleared. -/
def daa (a : Byte) (n h c : Bool) : Byte × Flags :=
  let r := if n then a - daaAdj a n h c else a + daaAdj a n h c
  (r, ⟨decide (r = 0), n, false, daaHigh a n c⟩)

/-- `cpl` (R146): Z and C preserved. -/
def cpl (a : Byte) (f : Flags) : Byte × Flags := (a ^^^ 0xFF, ⟨f.z, true, true, f.c⟩)

/-- `scf` (R147): Z preserved. -/
def scf (f : Flags) : Flags := ⟨f.z, false, false, true⟩

/-- `ccf` (R148): Z preserved. -/
def ccf (f : Flags) : Flags := ⟨f.z, false, false, !f.c⟩

/-- The flags of a rotate or shift with result `r` and shifted-out bit `c` (R149-R155). -/
def rotFlags (r : Byte) (c : Bool) : Flags := ⟨decide (r = 0), false, false, c⟩

/-- A byte that is 1 or 0 as the bit is set or not. -/
def bitByte (b : Bool) : Byte := BitVec.ofNat 8 b.toNat

/-- `rlc` (R149). -/
def rlc (v : Byte) : Byte × Flags :=
  let r := (v <<< 1) ||| bitByte (v.getLsbD 7)
  (r, rotFlags r (v.getLsbD 7))

/-- `rrc` (R150). -/
def rrc (v : Byte) : Byte × Flags :=
  let r := (v >>> 1) ||| (bitByte (v.getLsbD 0) <<< 7)
  (r, rotFlags r (v.getLsbD 0))

/-- `rl` (R151). -/
def rl (v : Byte) (c : Bool) : Byte × Flags :=
  let r := (v <<< 1) ||| bitByte c
  (r, rotFlags r (v.getLsbD 7))

/-- `rr` (R152). -/
def rr (v : Byte) (c : Bool) : Byte × Flags :=
  let r := (v >>> 1) ||| (bitByte c <<< 7)
  (r, rotFlags r (v.getLsbD 0))

/-- `sla` (R153). -/
def sla (v : Byte) : Byte × Flags := (v <<< 1, rotFlags (v <<< 1) (v.getLsbD 7))

/-- `sra` (R154). -/
def sra (v : Byte) : Byte × Flags :=
  let r := (v >>> 1) ||| (v &&& 0x80)
  (r, rotFlags r (v.getLsbD 0))

/-- `srl` (R155). -/
def srl (v : Byte) : Byte × Flags := (v >>> 1, rotFlags (v >>> 1) (v.getLsbD 0))

/-- `swap` (R156). -/
def swapNibbles (v : Byte) : Byte × Flags :=
  let r := (v <<< 4) ||| (v >>> 4)
  (r, rotFlags r false)

/-- The result and flags of an accumulator rotate: those of the CB form with Z cleared (R160). -/
def clearZ (p : Byte × Flags) : Byte × Flags := (p.1, ⟨false, p.2.n, p.2.h, p.2.c⟩)

/-- `rlca` (R160). -/
def rlca (a : Byte) : Byte × Flags := clearZ (rlc a)

/-- `rrca` (R160). -/
def rrca (a : Byte) : Byte × Flags := clearZ (rrc a)

/-- `rla` (R160). -/
def rla (a : Byte) (c : Bool) : Byte × Flags := clearZ (rl a c)

/-- `rra` (R160). -/
def rra (a : Byte) (c : Bool) : Byte × Flags := clearZ (rr a c)

/-- `bit n, v` (R157): C preserved. -/
def bitTest (n : Fin 8) (v : Byte) (c : Bool) : Flags := ⟨!v.getLsbD n.val, false, true, c⟩

/-- `res n, v` (R158). -/
def resBit (n : Fin 8) (v : Byte) : Byte := v &&& ~~~((1#8) <<< n.val)

/-- `set n, v` (R159). -/
def setBit (n : Fin 8) (v : Byte) : Byte := v ||| ((1#8) <<< n.val)

end Sys2Proof.Machine
end

