-- ==== Sys2Proof/Syntax.lean ====
section
/-! DEFINITION. The instructions as syntax: the operand tables of 30_encoding.md R96-R101, the form of an instruction (its row of
the opcode table by class and operands, R122), and one constructor of `Instr` per row of spec/opcode_table.json. -/

namespace Sys2Proof

/-- Table `r`: an 8-bit register or the memory byte at HL (30_encoding.md R96). -/
inductive R8 where
  | b | c | d | e | h | l | atHl | a
deriving DecidableEq, Repr

/-- Table `rp`: a 16-bit register of `LD rr,d16`, `ADD HL,rr`, `INC rr`, `DEC rr` (30_encoding.md R97). -/
inductive Rp where
  | bc | de | hl | sp
deriving DecidableEq, Repr

/-- Table `rp2`: a 16-bit register of `PUSH` and `POP` (30_encoding.md R98). -/
inductive Rp2 where
  | bc | de | hl | af
deriving DecidableEq, Repr

/-- The pair of an `(BC)` or `(DE)` operand. -/
inductive IndPair where
  | bc | de
deriving DecidableEq, Repr

/-- Table `cc`: a condition (30_encoding.md R99). -/
inductive Cond where
  | nz | z | nc | c
deriving DecidableEq, Repr

/-- Table `alu`: an 8-bit operation (30_encoding.md R100). -/
inductive AluOp where
  | add | adc | sub | sbc | and | xor | or | cp
deriving DecidableEq, Repr

/-- Table `rot`: a CB-prefixed rotate or shift (30_encoding.md R101). -/
inductive RotOp where
  | rlc | rrc | rl | rr | sla | sra | swap | srl
deriving DecidableEq, Repr

/-- The accumulator rotates (30_encoding.md R102). -/
inductive RotAOp where
  | rlca | rrca | rla | rra
deriving DecidableEq, Repr

/-- A CB-prefixed instruction by its fields (30_encoding.md R107). -/
inductive CbForm where
  | rot (op : RotOp) (x : R8)
  | bit (n : Fin 8) (x : R8)
  | res (n : Fin 8) (x : R8)
  | set (n : Fin 8) (x : R8)
deriving DecidableEq, Repr

/-- The form of an instruction: what its row of the opcode table says, by class and operands (30_encoding.md R102-R107, R122). -/
inductive Form where
  | nop
  | ld8 (dst src : R8)
  | ldImm8 (dst : R8) (d8 : Byte)
  | ldAInd (p : IndPair)
  | ldIndA (p : IndPair)
  | ldAA16 (a16 : Word)
  | ldA16A (a16 : Word)
  | ldhAC
  | ldhCA
  | ldhAA8 (a8 : Byte)
  | ldhA8A (a8 : Byte)
  | ldAHli
  | ldAHld
  | ldHliA
  | ldHldA
  | ldRp16 (rr : Rp) (d16 : Word)
  | ldA16Sp (a16 : Word)
  | ldSpHl
  | ldHlSpE8 (e8 : Byte)
  | push (rr : Rp2)
  | pop (rr : Rp2)
  | alu (op : AluOp) (x : R8)
  | aluImm (op : AluOp) (d8 : Byte)
  | inc8 (x : R8)
  | dec8 (x : R8)
  | daa
  | cpl
  | scf
  | ccf
  | addHl (rr : Rp)
  | addSp (e8 : Byte)
  | inc16 (rr : Rp)
  | dec16 (rr : Rp)
  | rotA (op : RotAOp)
  | cb (op : CbForm)
  | jp (a16 : Word)
  | jpCc (cc : Cond) (a16 : Word)
  | jpHl
  | jr (e8 : Byte)
  | jrCc (cc : Cond) (e8 : Byte)
  | call (a16 : Word)
  | callCc (cc : Cond) (a16 : Word)
  | ret
  | retCc (cc : Cond)
  | reti
  | rst (y : Fin 8)
  | halt
  | stop (b2 : Byte)
  | di
  | ei
  | invalid (op : Byte)
deriving DecidableEq, Repr

/-- The instructions: one constructor per row of spec/opcode_table.json, named after the row, carrying the row's operand bytes
(30_encoding.md R102-R111). The bit patterns are the table's, first byte first. The rows that carry operand bytes come first, in the
table's order; then the other base rows and the CB rows. -/
inductive Instr where
  /-- `LD BC,d16`: 00000001 llllllll hhhhhhhh (R210). -/
  | ldBcD16 (d16 : Word)
  /-- `LD B,d8`: 00000110 nnnnnnnn (R181). -/
  | ldBD8 (d8 : Byte)
  /-- `LD (a16),SP`: 00001000 llllllll hhhhhhhh (R211). -/
  | ldAtA16Sp (a16 : Word)
  /-- `LD C,d8`: 00001110 nnnnnnnn (R181). -/
  | ldCD8 (d8 : Byte)
  /-- `STOP`: 00010000 ssssssss (R324). -/
  | stop (b2 : Byte)
  /-- `LD DE,d16`: 00010001 llllllll hhhhhhhh (R210). -/
  | ldDeD16 (d16 : Word)
  /-- `LD D,d8`: 00010110 nnnnnnnn (R181). -/
  | ldDD8 (d8 : Byte)
  /-- `JR e8`: 00011000 eeeeeeee (R303). -/
  | jrE8 (e8 : Byte)
  /-- `LD E,d8`: 00011110 nnnnnnnn (R181). -/
  | ldED8 (d8 : Byte)
  /-- `JR NZ,e8`: 00100000 eeeeeeee (R304). -/
  | jrNzE8 (e8 : Byte)
  /-- `LD HL,d16`: 00100001 llllllll hhhhhhhh (R210). -/
  | ldHlD16 (d16 : Word)
  /-- `LD H,d8`: 00100110 nnnnnnnn (R181). -/
  | ldHD8 (d8 : Byte)
  /-- `JR Z,e8`: 00101000 eeeeeeee (R304). -/
  | jrZE8 (e8 : Byte)
  /-- `LD L,d8`: 00101110 nnnnnnnn (R181). -/
  | ldLD8 (d8 : Byte)
  /-- `JR NC,e8`: 00110000 eeeeeeee (R304). -/
  | jrNcE8 (e8 : Byte)
  /-- `LD SP,d16`: 00110001 llllllll hhhhhhhh (R210). -/
  | ldSpD16 (d16 : Word)
  /-- `LD (HL),d8`: 00110110 nnnnnnnn (R184). -/
  | ldAtHlD8 (d8 : Byte)
  /-- `JR C,e8`: 00111000 eeeeeeee (R304). -/
  | jrCE8 (e8 : Byte)
  /-- `LD A,d8`: 00111110 nnnnnnnn (R181). -/
  | ldAD8 (d8 : Byte)
  /-- `JP NZ,a16`: 11000010 llllllll hhhhhhhh (R301). -/
  | jpNzA16 (a16 : Word)
  /-- `JP a16`: 11000011 llllllll hhhhhhhh (R300). -/
  | jpA16 (a16 : Word)
  /-- `CALL NZ,a16`: 11000100 llllllll hhhhhhhh (R306). -/
  | callNzA16 (a16 : Word)
  /-- `ADD A,d8`: 11000110 nnnnnnnn (R230). -/
  | addAD8 (d8 : Byte)
  /-- `JP Z,a16`: 11001010 llllllll hhhhhhhh (R301). -/
  | jpZA16 (a16 : Word)
  /-- `PREFIX CB`: 11001011 (R328). -/
  | prefixCb (b2 : Byte)
  /-- `CALL Z,a16`: 11001100 llllllll hhhhhhhh (R306). -/
  | callZA16 (a16 : Word)
  /-- `CALL a16`: 11001101 llllllll hhhhhhhh (R305). -/
  | callA16 (a16 : Word)
  /-- `ADC A,d8`: 11001110 nnnnnnnn (R231). -/
  | adcAD8 (d8 : Byte)
  /-- `JP NC,a16`: 11010010 llllllll hhhhhhhh (R301). -/
  | jpNcA16 (a16 : Word)
  /-- `CALL NC,a16`: 11010100 llllllll hhhhhhhh (R306). -/
  | callNcA16 (a16 : Word)
  /-- `SUB A,d8`: 11010110 nnnnnnnn (R232). -/
  | subAD8 (d8 : Byte)
  /-- `JP C,a16`: 11011010 llllllll hhhhhhhh (R301). -/
  | jpCA16 (a16 : Word)
  /-- `CALL C,a16`: 11011100 llllllll hhhhhhhh (R306). -/
  | callCA16 (a16 : Word)
  /-- `SBC A,d8`: 11011110 nnnnnnnn (R233). -/
  | sbcAD8 (d8 : Byte)
  /-- `LDH (a8),A`: 11100000 nnnnnnnn (R194). -/
  | ldhAtA8A (a8 : Byte)
  /-- `AND A,d8`: 11100110 nnnnnnnn (R234). -/
  | andAD8 (d8 : Byte)
  /-- `ADD SP,e8`: 11101000 eeeeeeee (R261). -/
  | addSpE8 (e8 : Byte)
  /-- `LD (a16),A`: 11101010 llllllll hhhhhhhh (R190). -/
  | ldAtA16A (a16 : Word)
  /-- `XOR A,d8`: 11101110 nnnnnnnn (R235). -/
  | xorAD8 (d8 : Byte)
  /-- `LDH A,(a8)`: 11110000 nnnnnnnn (R193). -/
  | ldhAAtA8 (a8 : Byte)
  /-- `OR A,d8`: 11110110 nnnnnnnn (R236). -/
  | orAD8 (d8 : Byte)
  /-- `LD HL,SP+e8`: 11111000 eeeeeeee (R213). -/
  | ldHlSpE8 (e8 : Byte)
  /-- `LD A,(a16)`: 11111010 llllllll hhhhhhhh (R189). -/
  | ldAAtA16 (a16 : Word)
  /-- `CP A,d8`: 11111110 nnnnnnnn (R237). -/
  | cpAD8 (d8 : Byte)
  /-- `NOP`: 00000000 (R321). -/
  | nop
  /-- `LD (BC),A`: 00000010 (R187). -/
  | ldAtBcA
  /-- `INC BC`: 00000011 (R262). -/
  | incBc
  /-- `INC B`: 00000100 (R238). -/
  | incB
  /-- `DEC B`: 00000101 (R239). -/
  | decB
  /-- `RLCA`: 00000111 (R270). -/
  | rlca
  /-- `ADD HL,BC`: 00001001 (R260). -/
  | addHlBc
  /-- `LD A,(BC)`: 00001010 (R185). -/
  | ldAAtBc
  /-- `DEC BC`: 00001011 (R263). -/
  | decBc
  /-- `INC C`: 00001100 (R238). -/
  | incC
  /-- `DEC C`: 00001101 (R239). -/
  | decC
  /-- `RRCA`: 00001111 (R271). -/
  | rrca
  /-- `LD (DE),A`: 00010010 (R188). -/
  | ldAtDeA
  /-- `INC DE`: 00010011 (R262). -/
  | incDe
  /-- `INC D`: 00010100 (R238). -/
  | incD
  /-- `DEC D`: 00010101 (R239). -/
  | decD
  /-- `RLA`: 00010111 (R272). -/
  | rla
  /-- `ADD HL,DE`: 00011001 (R260). -/
  | addHlDe
  /-- `LD A,(DE)`: 00011010 (R186). -/
  | ldAAtDe
  /-- `DEC DE`: 00011011 (R263). -/
  | decDe
  /-- `INC E`: 00011100 (R238). -/
  | incE
  /-- `DEC E`: 00011101 (R239). -/
  | decE
  /-- `RRA`: 00011111 (R273). -/
  | rra
  /-- `LD (HL+),A`: 00100010 (R198). -/
  | ldAtHlIncA
  /-- `INC HL`: 00100011 (R262). -/
  | incHl
  /-- `INC H`: 00100100 (R238). -/
  | incH
  /-- `DEC H`: 00100101 (R239). -/
  | decH
  /-- `DAA`: 00100111 (R240). -/
  | daa
  /-- `ADD HL,HL`: 00101001 (R260). -/
  | addHlHl
  /-- `LD A,(HL+)`: 00101010 (R197). -/
  | ldAAtHlInc
  /-- `DEC HL`: 00101011 (R263). -/
  | decHl
  /-- `INC L`: 00101100 (R238). -/
  | incL
  /-- `DEC L`: 00101101 (R239). -/
  | decL
  /-- `CPL`: 00101111 (R241). -/
  | cpl
  /-- `LD (HL-),A`: 00110010 (R196). -/
  | ldAtHlDecA
  /-- `INC SP`: 00110011 (R262). -/
  | incSp
  /-- `INC (HL)`: 00110100 (R238). -/
  | incAtHl
  /-- `DEC (HL)`: 00110101 (R239). -/
  | decAtHl
  /-- `SCF`: 00110111 (R242). -/
  | scf
  /-- `ADD HL,SP`: 00111001 (R260). -/
  | addHlSp
  /-- `LD A,(HL-)`: 00111010 (R195). -/
  | ldAAtHlDec
  /-- `DEC SP`: 00111011 (R263). -/
  | decSp
  /-- `INC A`: 00111100 (R238). -/
  | incA
  /-- `DEC A`: 00111101 (R239). -/
  | decA
  /-- `CCF`: 00111111 (R243). -/
  | ccf
  /-- `LD B,B`: 01000000 (R180). -/
  | ldBB
  /-- `LD B,C`: 01000001 (R180). -/
  | ldBC
  /-- `LD B,D`: 01000010 (R180). -/
  | ldBD
  /-- `LD B,E`: 01000011 (R180). -/
  | ldBE
  /-- `LD B,H`: 01000100 (R180). -/
  | ldBH
  /-- `LD B,L`: 01000101 (R180). -/
  | ldBL
  /-- `LD B,(HL)`: 01000110 (R182). -/
  | ldBAtHl
  /-- `LD B,A`: 01000111 (R180). -/
  | ldBA
  /-- `LD C,B`: 01001000 (R180). -/
  | ldCB
  /-- `LD C,C`: 01001001 (R180). -/
  | ldCC
  /-- `LD C,D`: 01001010 (R180). -/
  | ldCD
  /-- `LD C,E`: 01001011 (R180). -/
  | ldCE
  /-- `LD C,H`: 01001100 (R180). -/
  | ldCH
  /-- `LD C,L`: 01001101 (R180). -/
  | ldCL
  /-- `LD C,(HL)`: 01001110 (R182). -/
  | ldCAtHl
  /-- `LD C,A`: 01001111 (R180). -/
  | ldCA
  /-- `LD D,B`: 01010000 (R180). -/
  | ldDB
  /-- `LD D,C`: 01010001 (R180). -/
  | ldDC
  /-- `LD D,D`: 01010010 (R180). -/
  | ldDD
  /-- `LD D,E`: 01010011 (R180). -/
  | ldDE
  /-- `LD D,H`: 01010100 (R180). -/
  | ldDH
  /-- `LD D,L`: 01010101 (R180). -/
  | ldDL
  /-- `LD D,(HL)`: 01010110 (R182). -/
  | ldDAtHl
  /-- `LD D,A`: 01010111 (R180). -/
  | ldDA
  /-- `LD E,B`: 01011000 (R180). -/
  | ldEB
  /-- `LD E,C`: 01011001 (R180). -/
  | ldEC
  /-- `LD E,D`: 01011010 (R180). -/
  | ldED
  /-- `LD E,E`: 01011011 (R180). -/
  | ldEE
  /-- `LD E,H`: 01011100 (R180). -/
  | ldEH
  /-- `LD E,L`: 01011101 (R180). -/
  | ldEL
  /-- `LD E,(HL)`: 01011110 (R182). -/
  | ldEAtHl
  /-- `LD E,A`: 01011111 (R180). -/
  | ldEA
  /-- `LD H,B`: 01100000 (R180). -/
  | ldHB
  /-- `LD H,C`: 01100001 (R180). -/
  | ldHC
  /-- `LD H,D`: 01100010 (R180). -/
  | ldHD
  /-- `LD H,E`: 01100011 (R180). -/
  | ldHE
  /-- `LD H,H`: 01100100 (R180). -/
  | ldHH
  /-- `LD H,L`: 01100101 (R180). -/
  | ldHL
  /-- `LD H,(HL)`: 01100110 (R182). -/
  | ldHAtHl
  /-- `LD H,A`: 01100111 (R180). -/
  | ldHA
  /-- `LD L,B`: 01101000 (R180). -/
  | ldLB
  /-- `LD L,C`: 01101001 (R180). -/
  | ldLC
  /-- `LD L,D`: 01101010 (R180). -/
  | ldLD
  /-- `LD L,E`: 01101011 (R180). -/
  | ldLE
  /-- `LD L,H`: 01101100 (R180). -/
  | ldLH
  /-- `LD L,L`: 01101101 (R180). -/
  | ldLL
  /-- `LD L,(HL)`: 01101110 (R182). -/
  | ldLAtHl
  /-- `LD L,A`: 01101111 (R180). -/
  | ldLA
  /-- `LD (HL),B`: 01110000 (R183). -/
  | ldAtHlB
  /-- `LD (HL),C`: 01110001 (R183). -/
  | ldAtHlC
  /-- `LD (HL),D`: 01110010 (R183). -/
  | ldAtHlD
  /-- `LD (HL),E`: 01110011 (R183). -/
  | ldAtHlE
  /-- `LD (HL),H`: 01110100 (R183). -/
  | ldAtHlH
  /-- `LD (HL),L`: 01110101 (R183). -/
  | ldAtHlL
  /-- `HALT`: 01110110 (R322). -/
  | halt
  /-- `LD (HL),A`: 01110111 (R183). -/
  | ldAtHlA
  /-- `LD A,B`: 01111000 (R180). -/
  | ldAB
  /-- `LD A,C`: 01111001 (R180). -/
  | ldAC
  /-- `LD A,D`: 01111010 (R180). -/
  | ldAD
  /-- `LD A,E`: 01111011 (R180). -/
  | ldAE
  /-- `LD A,H`: 01111100 (R180). -/
  | ldAH
  /-- `LD A,L`: 01111101 (R180). -/
  | ldAL
  /-- `LD A,(HL)`: 01111110 (R182). -/
  | ldAAtHl
  /-- `LD A,A`: 01111111 (R180). -/
  | ldAA
  /-- `ADD A,B`: 10000000 (R230). -/
  | addAB
  /-- `ADD A,C`: 10000001 (R230). -/
  | addAC
  /-- `ADD A,D`: 10000010 (R230). -/
  | addAD
  /-- `ADD A,E`: 10000011 (R230). -/
  | addAE
  /-- `ADD A,H`: 10000100 (R230). -/
  | addAH
  /-- `ADD A,L`: 10000101 (R230). -/
  | addAL
  /-- `ADD A,(HL)`: 10000110 (R230). -/
  | addAAtHl
  /-- `ADD A,A`: 10000111 (R230). -/
  | addAA
  /-- `ADC A,B`: 10001000 (R231). -/
  | adcAB
  /-- `ADC A,C`: 10001001 (R231). -/
  | adcAC
  /-- `ADC A,D`: 10001010 (R231). -/
  | adcAD
  /-- `ADC A,E`: 10001011 (R231). -/
  | adcAE
  /-- `ADC A,H`: 10001100 (R231). -/
  | adcAH
  /-- `ADC A,L`: 10001101 (R231). -/
  | adcAL
  /-- `ADC A,(HL)`: 10001110 (R231). -/
  | adcAAtHl
  /-- `ADC A,A`: 10001111 (R231). -/
  | adcAA
  /-- `SUB A,B`: 10010000 (R232). -/
  | subAB
  /-- `SUB A,C`: 10010001 (R232). -/
  | subAC
  /-- `SUB A,D`: 10010010 (R232). -/
  | subAD
  /-- `SUB A,E`: 10010011 (R232). -/
  | subAE
  /-- `SUB A,H`: 10010100 (R232). -/
  | subAH
  /-- `SUB A,L`: 10010101 (R232). -/
  | subAL
  /-- `SUB A,(HL)`: 10010110 (R232). -/
  | subAAtHl
  /-- `SUB A,A`: 10010111 (R232). -/
  | subAA
  /-- `SBC A,B`: 10011000 (R233). -/
  | sbcAB
  /-- `SBC A,C`: 10011001 (R233). -/
  | sbcAC
  /-- `SBC A,D`: 10011010 (R233). -/
  | sbcAD
  /-- `SBC A,E`: 10011011 (R233). -/
  | sbcAE
  /-- `SBC A,H`: 10011100 (R233). -/
  | sbcAH
  /-- `SBC A,L`: 10011101 (R233). -/
  | sbcAL
  /-- `SBC A,(HL)`: 10011110 (R233). -/
  | sbcAAtHl
  /-- `SBC A,A`: 10011111 (R233). -/
  | sbcAA
  /-- `AND A,B`: 10100000 (R234). -/
  | andAB
  /-- `AND A,C`: 10100001 (R234). -/
  | andAC
  /-- `AND A,D`: 10100010 (R234). -/
  | andAD
  /-- `AND A,E`: 10100011 (R234). -/
  | andAE
  /-- `AND A,H`: 10100100 (R234). -/
  | andAH
  /-- `AND A,L`: 10100101 (R234). -/
  | andAL
  /-- `AND A,(HL)`: 10100110 (R234). -/
  | andAAtHl
  /-- `AND A,A`: 10100111 (R234). -/
  | andAA
  /-- `XOR A,B`: 10101000 (R235). -/
  | xorAB
  /-- `XOR A,C`: 10101001 (R235). -/
  | xorAC
  /-- `XOR A,D`: 10101010 (R235). -/
  | xorAD
  /-- `XOR A,E`: 10101011 (R235). -/
  | xorAE
  /-- `XOR A,H`: 10101100 (R235). -/
  | xorAH
  /-- `XOR A,L`: 10101101 (R235). -/
  | xorAL
  /-- `XOR A,(HL)`: 10101110 (R235). -/
  | xorAAtHl
  /-- `XOR A,A`: 10101111 (R235). -/
  | xorAA
  /-- `OR A,B`: 10110000 (R236). -/
  | orAB
  /-- `OR A,C`: 10110001 (R236). -/
  | orAC
  /-- `OR A,D`: 10110010 (R236). -/
  | orAD
  /-- `OR A,E`: 10110011 (R236). -/
  | orAE
  /-- `OR A,H`: 10110100 (R236). -/
  | orAH
  /-- `OR A,L`: 10110101 (R236). -/
  | orAL
  /-- `OR A,(HL)`: 10110110 (R236). -/
  | orAAtHl
  /-- `OR A,A`: 10110111 (R236). -/
  | orAA
  /-- `CP A,B`: 10111000 (R237). -/
  | cpAB
  /-- `CP A,C`: 10111001 (R237). -/
  | cpAC
  /-- `CP A,D`: 10111010 (R237). -/
  | cpAD
  /-- `CP A,E`: 10111011 (R237). -/
  | cpAE
  /-- `CP A,H`: 10111100 (R237). -/
  | cpAH
  /-- `CP A,L`: 10111101 (R237). -/
  | cpAL
  /-- `CP A,(HL)`: 10111110 (R237). -/
  | cpAAtHl
  /-- `CP A,A`: 10111111 (R237). -/
  | cpAA
  /-- `RET NZ`: 11000000 (R308). -/
  | retNz
  /-- `POP BC`: 11000001 (R215). -/
  | popBc
  /-- `PUSH BC`: 11000101 (R214). -/
  | pushBc
  /-- `RST 0x00`: 11000111 (R310). -/
  | rst00
  /-- `RET Z`: 11001000 (R308). -/
  | retZ
  /-- `RET`: 11001001 (R307). -/
  | ret
  /-- `RST 0x08`: 11001111 (R310). -/
  | rst08
  /-- `RET NC`: 11010000 (R308). -/
  | retNc
  /-- `POP DE`: 11010001 (R215). -/
  | popDe
  /-- `INVALID_D3`: 11010011 (R329). -/
  | invalidD3
  /-- `PUSH DE`: 11010101 (R214). -/
  | pushDe
  /-- `RST 0x10`: 11010111 (R310). -/
  | rst10
  /-- `RET C`: 11011000 (R308). -/
  | retC
  /-- `RETI`: 11011001 (R309). -/
  | reti
  /-- `INVALID_DB`: 11011011 (R329). -/
  | invalidDB
  /-- `INVALID_DD`: 11011101 (R329). -/
  | invalidDD
  /-- `RST 0x18`: 11011111 (R310). -/
  | rst18
  /-- `POP HL`: 11100001 (R215). -/
  | popHl
  /-- `LDH (C),A`: 11100010 (R192). -/
  | ldhAtCA
  /-- `INVALID_E3`: 11100011 (R329). -/
  | invalidE3
  /-- `INVALID_E4`: 11100100 (R329). -/
  | invalidE4
  /-- `PUSH HL`: 11100101 (R214). -/
  | pushHl
  /-- `RST 0x20`: 11100111 (R310). -/
  | rst20
  /-- `JP HL`: 11101001 (R302). -/
  | jpHl
  /-- `INVALID_EB`: 11101011 (R329). -/
  | invalidEB
  /-- `INVALID_EC`: 11101100 (R329). -/
  | invalidEC
  /-- `INVALID_ED`: 11101101 (R329). -/
  | invalidED
  /-- `RST 0x28`: 11101111 (R310). -/
  | rst28
  /-- `POP AF`: 11110001 (R215). -/
  | popAf
  /-- `LDH A,(C)`: 11110010 (R191). -/
  | ldhAAtC
  /-- `DI`: 11110011 (R325). -/
  | di
  /-- `INVALID_F4`: 11110100 (R329). -/
  | invalidF4
  /-- `PUSH AF`: 11110101 (R214). -/
  | pushAf
  /-- `RST 0x30`: 11110111 (R310). -/
  | rst30
  /-- `LD SP,HL`: 11111001 (R212). -/
  | ldSpHl
  /-- `EI`: 11111011 (R327). -/
  | ei
  /-- `INVALID_FC`: 11111100 (R329). -/
  | invalidFC
  /-- `INVALID_FD`: 11111101 (R329). -/
  | invalidFD
  /-- `RST 0x38`: 11111111 (R310). -/
  | rst38
  /-- `RLC B`: 11001011 00000000 (R274). -/
  | rlcB
  /-- `RLC C`: 11001011 00000001 (R274). -/
  | rlcC
  /-- `RLC D`: 11001011 00000010 (R274). -/
  | rlcD
  /-- `RLC E`: 11001011 00000011 (R274). -/
  | rlcE
  /-- `RLC H`: 11001011 00000100 (R274). -/
  | rlcH
  /-- `RLC L`: 11001011 00000101 (R274). -/
  | rlcL
  /-- `RLC (HL)`: 11001011 00000110 (R274). -/
  | rlcAtHl
  /-- `RLC A`: 11001011 00000111 (R274). -/
  | rlcA
  /-- `RRC B`: 11001011 00001000 (R275). -/
  | rrcB
  /-- `RRC C`: 11001011 00001001 (R275). -/
  | rrcC
  /-- `RRC D`: 11001011 00001010 (R275). -/
  | rrcD
  /-- `RRC E`: 11001011 00001011 (R275). -/
  | rrcE
  /-- `RRC H`: 11001011 00001100 (R275). -/
  | rrcH
  /-- `RRC L`: 11001011 00001101 (R275). -/
  | rrcL
  /-- `RRC (HL)`: 11001011 00001110 (R275). -/
  | rrcAtHl
  /-- `RRC A`: 11001011 00001111 (R275). -/
  | rrcA
  /-- `RL B`: 11001011 00010000 (R276). -/
  | rlB
  /-- `RL C`: 11001011 00010001 (R276). -/
  | rlC
  /-- `RL D`: 11001011 00010010 (R276). -/
  | rlD
  /-- `RL E`: 11001011 00010011 (R276). -/
  | rlE
  /-- `RL H`: 11001011 00010100 (R276). -/
  | rlH
  /-- `RL L`: 11001011 00010101 (R276). -/
  | rlL
  /-- `RL (HL)`: 11001011 00010110 (R276). -/
  | rlAtHl
  /-- `RL A`: 11001011 00010111 (R276). -/
  | rlA
  /-- `RR B`: 11001011 00011000 (R277). -/
  | rrB
  /-- `RR C`: 11001011 00011001 (R277). -/
  | rrC
  /-- `RR D`: 11001011 00011010 (R277). -/
  | rrD
  /-- `RR E`: 11001011 00011011 (R277). -/
  | rrE
  /-- `RR H`: 11001011 00011100 (R277). -/
  | rrH
  /-- `RR L`: 11001011 00011101 (R277). -/
  | rrL
  /-- `RR (HL)`: 11001011 00011110 (R277). -/
  | rrAtHl
  /-- `RR A`: 11001011 00011111 (R277). -/
  | rrA
  /-- `SLA B`: 11001011 00100000 (R278). -/
  | slaB
  /-- `SLA C`: 11001011 00100001 (R278). -/
  | slaC
  /-- `SLA D`: 11001011 00100010 (R278). -/
  | slaD
  /-- `SLA E`: 11001011 00100011 (R278). -/
  | slaE
  /-- `SLA H`: 11001011 00100100 (R278). -/
  | slaH
  /-- `SLA L`: 11001011 00100101 (R278). -/
  | slaL
  /-- `SLA (HL)`: 11001011 00100110 (R278). -/
  | slaAtHl
  /-- `SLA A`: 11001011 00100111 (R278). -/
  | slaA
  /-- `SRA B`: 11001011 00101000 (R279). -/
  | sraB
  /-- `SRA C`: 11001011 00101001 (R279). -/
  | sraC
  /-- `SRA D`: 11001011 00101010 (R279). -/
  | sraD
  /-- `SRA E`: 11001011 00101011 (R279). -/
  | sraE
  /-- `SRA H`: 11001011 00101100 (R279). -/
  | sraH
  /-- `SRA L`: 11001011 00101101 (R279). -/
  | sraL
  /-- `SRA (HL)`: 11001011 00101110 (R279). -/
  | sraAtHl
  /-- `SRA A`: 11001011 00101111 (R279). -/
  | sraA
  /-- `SWAP B`: 11001011 00110000 (R280). -/
  | swapB
  /-- `SWAP C`: 11001011 00110001 (R280). -/
  | swapC
  /-- `SWAP D`: 11001011 00110010 (R280). -/
  | swapD
  /-- `SWAP E`: 11001011 00110011 (R280). -/
  | swapE
  /-- `SWAP H`: 11001011 00110100 (R280). -/
  | swapH
  /-- `SWAP L`: 11001011 00110101 (R280). -/
  | swapL
  /-- `SWAP (HL)`: 11001011 00110110 (R280). -/
  | swapAtHl
  /-- `SWAP A`: 11001011 00110111 (R280). -/
  | swapA
  /-- `SRL B`: 11001011 00111000 (R281). -/
  | srlB
  /-- `SRL C`: 11001011 00111001 (R281). -/
  | srlC
  /-- `SRL D`: 11001011 00111010 (R281). -/
  | srlD
  /-- `SRL E`: 11001011 00111011 (R281). -/
  | srlE
  /-- `SRL H`: 11001011 00111100 (R281). -/
  | srlH
  /-- `SRL L`: 11001011 00111101 (R281). -/
  | srlL
  /-- `SRL (HL)`: 11001011 00111110 (R281). -/
  | srlAtHl
  /-- `SRL A`: 11001011 00111111 (R281). -/
  | srlA
  /-- `BIT 0,B`: 11001011 01000000 (R282). -/
  | bit0B
  /-- `BIT 0,C`: 11001011 01000001 (R282). -/
  | bit0C
  /-- `BIT 0,D`: 11001011 01000010 (R282). -/
  | bit0D
  /-- `BIT 0,E`: 11001011 01000011 (R282). -/
  | bit0E
  /-- `BIT 0,H`: 11001011 01000100 (R282). -/
  | bit0H
  /-- `BIT 0,L`: 11001011 01000101 (R282). -/
  | bit0L
  /-- `BIT 0,(HL)`: 11001011 01000110 (R282). -/
  | bit0AtHl
  /-- `BIT 0,A`: 11001011 01000111 (R282). -/
  | bit0A
  /-- `BIT 1,B`: 11001011 01001000 (R282). -/
  | bit1B
  /-- `BIT 1,C`: 11001011 01001001 (R282). -/
  | bit1C
  /-- `BIT 1,D`: 11001011 01001010 (R282). -/
  | bit1D
  /-- `BIT 1,E`: 11001011 01001011 (R282). -/
  | bit1E
  /-- `BIT 1,H`: 11001011 01001100 (R282). -/
  | bit1H
  /-- `BIT 1,L`: 11001011 01001101 (R282). -/
  | bit1L
  /-- `BIT 1,(HL)`: 11001011 01001110 (R282). -/
  | bit1AtHl
  /-- `BIT 1,A`: 11001011 01001111 (R282). -/
  | bit1A
  /-- `BIT 2,B`: 11001011 01010000 (R282). -/
  | bit2B
  /-- `BIT 2,C`: 11001011 01010001 (R282). -/
  | bit2C
  /-- `BIT 2,D`: 11001011 01010010 (R282). -/
  | bit2D
  /-- `BIT 2,E`: 11001011 01010011 (R282). -/
  | bit2E
  /-- `BIT 2,H`: 11001011 01010100 (R282). -/
  | bit2H
  /-- `BIT 2,L`: 11001011 01010101 (R282). -/
  | bit2L
  /-- `BIT 2,(HL)`: 11001011 01010110 (R282). -/
  | bit2AtHl
  /-- `BIT 2,A`: 11001011 01010111 (R282). -/
  | bit2A
  /-- `BIT 3,B`: 11001011 01011000 (R282). -/
  | bit3B
  /-- `BIT 3,C`: 11001011 01011001 (R282). -/
  | bit3C
  /-- `BIT 3,D`: 11001011 01011010 (R282). -/
  | bit3D
  /-- `BIT 3,E`: 11001011 01011011 (R282). -/
  | bit3E
  /-- `BIT 3,H`: 11001011 01011100 (R282). -/
  | bit3H
  /-- `BIT 3,L`: 11001011 01011101 (R282). -/
  | bit3L
  /-- `BIT 3,(HL)`: 11001011 01011110 (R282). -/
  | bit3AtHl
  /-- `BIT 3,A`: 11001011 01011111 (R282). -/
  | bit3A
  /-- `BIT 4,B`: 11001011 01100000 (R282). -/
  | bit4B
  /-- `BIT 4,C`: 11001011 01100001 (R282). -/
  | bit4C
  /-- `BIT 4,D`: 11001011 01100010 (R282). -/
  | bit4D
  /-- `BIT 4,E`: 11001011 01100011 (R282). -/
  | bit4E
  /-- `BIT 4,H`: 11001011 01100100 (R282). -/
  | bit4H
  /-- `BIT 4,L`: 11001011 01100101 (R282). -/
  | bit4L
  /-- `BIT 4,(HL)`: 11001011 01100110 (R282). -/
  | bit4AtHl
  /-- `BIT 4,A`: 11001011 01100111 (R282). -/
  | bit4A
  /-- `BIT 5,B`: 11001011 01101000 (R282). -/
  | bit5B
  /-- `BIT 5,C`: 11001011 01101001 (R282). -/
  | bit5C
  /-- `BIT 5,D`: 11001011 01101010 (R282). -/
  | bit5D
  /-- `BIT 5,E`: 11001011 01101011 (R282). -/
  | bit5E
  /-- `BIT 5,H`: 11001011 01101100 (R282). -/
  | bit5H
  /-- `BIT 5,L`: 11001011 01101101 (R282). -/
  | bit5L
  /-- `BIT 5,(HL)`: 11001011 01101110 (R282). -/
  | bit5AtHl
  /-- `BIT 5,A`: 11001011 01101111 (R282). -/
  | bit5A
  /-- `BIT 6,B`: 11001011 01110000 (R282). -/
  | bit6B
  /-- `BIT 6,C`: 11001011 01110001 (R282). -/
  | bit6C
  /-- `BIT 6,D`: 11001011 01110010 (R282). -/
  | bit6D
  /-- `BIT 6,E`: 11001011 01110011 (R282). -/
  | bit6E
  /-- `BIT 6,H`: 11001011 01110100 (R282). -/
  | bit6H
  /-- `BIT 6,L`: 11001011 01110101 (R282). -/
  | bit6L
  /-- `BIT 6,(HL)`: 11001011 01110110 (R282). -/
  | bit6AtHl
  /-- `BIT 6,A`: 11001011 01110111 (R282). -/
  | bit6A
  /-- `BIT 7,B`: 11001011 01111000 (R282). -/
  | bit7B
  /-- `BIT 7,C`: 11001011 01111001 (R282). -/
  | bit7C
  /-- `BIT 7,D`: 11001011 01111010 (R282). -/
  | bit7D
  /-- `BIT 7,E`: 11001011 01111011 (R282). -/
  | bit7E
  /-- `BIT 7,H`: 11001011 01111100 (R282). -/
  | bit7H
  /-- `BIT 7,L`: 11001011 01111101 (R282). -/
  | bit7L
  /-- `BIT 7,(HL)`: 11001011 01111110 (R282). -/
  | bit7AtHl
  /-- `BIT 7,A`: 11001011 01111111 (R282). -/
  | bit7A
  /-- `RES 0,B`: 11001011 10000000 (R283). -/
  | res0B
  /-- `RES 0,C`: 11001011 10000001 (R283). -/
  | res0C
  /-- `RES 0,D`: 11001011 10000010 (R283). -/
  | res0D
  /-- `RES 0,E`: 11001011 10000011 (R283). -/
  | res0E
  /-- `RES 0,H`: 11001011 10000100 (R283). -/
  | res0H
  /-- `RES 0,L`: 11001011 10000101 (R283). -/
  | res0L
  /-- `RES 0,(HL)`: 11001011 10000110 (R283). -/
  | res0AtHl
  /-- `RES 0,A`: 11001011 10000111 (R283). -/
  | res0A
  /-- `RES 1,B`: 11001011 10001000 (R283). -/
  | res1B
  /-- `RES 1,C`: 11001011 10001001 (R283). -/
  | res1C
  /-- `RES 1,D`: 11001011 10001010 (R283). -/
  | res1D
  /-- `RES 1,E`: 11001011 10001011 (R283). -/
  | res1E
  /-- `RES 1,H`: 11001011 10001100 (R283). -/
  | res1H
  /-- `RES 1,L`: 11001011 10001101 (R283). -/
  | res1L
  /-- `RES 1,(HL)`: 11001011 10001110 (R283). -/
  | res1AtHl
  /-- `RES 1,A`: 11001011 10001111 (R283). -/
  | res1A
  /-- `RES 2,B`: 11001011 10010000 (R283). -/
  | res2B
  /-- `RES 2,C`: 11001011 10010001 (R283). -/
  | res2C
  /-- `RES 2,D`: 11001011 10010010 (R283). -/
  | res2D
  /-- `RES 2,E`: 11001011 10010011 (R283). -/
  | res2E
  /-- `RES 2,H`: 11001011 10010100 (R283). -/
  | res2H
  /-- `RES 2,L`: 11001011 10010101 (R283). -/
  | res2L
  /-- `RES 2,(HL)`: 11001011 10010110 (R283). -/
  | res2AtHl
  /-- `RES 2,A`: 11001011 10010111 (R283). -/
  | res2A
  /-- `RES 3,B`: 11001011 10011000 (R283). -/
  | res3B
  /-- `RES 3,C`: 11001011 10011001 (R283). -/
  | res3C
  /-- `RES 3,D`: 11001011 10011010 (R283). -/
  | res3D
  /-- `RES 3,E`: 11001011 10011011 (R283). -/
  | res3E
  /-- `RES 3,H`: 11001011 10011100 (R283). -/
  | res3H
  /-- `RES 3,L`: 11001011 10011101 (R283). -/
  | res3L
  /-- `RES 3,(HL)`: 11001011 10011110 (R283). -/
  | res3AtHl
  /-- `RES 3,A`: 11001011 10011111 (R283). -/
  | res3A
  /-- `RES 4,B`: 11001011 10100000 (R283). -/
  | res4B
  /-- `RES 4,C`: 11001011 10100001 (R283). -/
  | res4C
  /-- `RES 4,D`: 11001011 10100010 (R283). -/
  | res4D
  /-- `RES 4,E`: 11001011 10100011 (R283). -/
  | res4E
  /-- `RES 4,H`: 11001011 10100100 (R283). -/
  | res4H
  /-- `RES 4,L`: 11001011 10100101 (R283). -/
  | res4L
  /-- `RES 4,(HL)`: 11001011 10100110 (R283). -/
  | res4AtHl
  /-- `RES 4,A`: 11001011 10100111 (R283). -/
  | res4A
  /-- `RES 5,B`: 11001011 10101000 (R283). -/
  | res5B
  /-- `RES 5,C`: 11001011 10101001 (R283). -/
  | res5C
  /-- `RES 5,D`: 11001011 10101010 (R283). -/
  | res5D
  /-- `RES 5,E`: 11001011 10101011 (R283). -/
  | res5E
  /-- `RES 5,H`: 11001011 10101100 (R283). -/
  | res5H
  /-- `RES 5,L`: 11001011 10101101 (R283). -/
  | res5L
  /-- `RES 5,(HL)`: 11001011 10101110 (R283). -/
  | res5AtHl
  /-- `RES 5,A`: 11001011 10101111 (R283). -/
  | res5A
  /-- `RES 6,B`: 11001011 10110000 (R283). -/
  | res6B
  /-- `RES 6,C`: 11001011 10110001 (R283). -/
  | res6C
  /-- `RES 6,D`: 11001011 10110010 (R283). -/
  | res6D
  /-- `RES 6,E`: 11001011 10110011 (R283). -/
  | res6E
  /-- `RES 6,H`: 11001011 10110100 (R283). -/
  | res6H
  /-- `RES 6,L`: 11001011 10110101 (R283). -/
  | res6L
  /-- `RES 6,(HL)`: 11001011 10110110 (R283). -/
  | res6AtHl
  /-- `RES 6,A`: 11001011 10110111 (R283). -/
  | res6A
  /-- `RES 7,B`: 11001011 10111000 (R283). -/
  | res7B
  /-- `RES 7,C`: 11001011 10111001 (R283). -/
  | res7C
  /-- `RES 7,D`: 11001011 10111010 (R283). -/
  | res7D
  /-- `RES 7,E`: 11001011 10111011 (R283). -/
  | res7E
  /-- `RES 7,H`: 11001011 10111100 (R283). -/
  | res7H
  /-- `RES 7,L`: 11001011 10111101 (R283). -/
  | res7L
  /-- `RES 7,(HL)`: 11001011 10111110 (R283). -/
  | res7AtHl
  /-- `RES 7,A`: 11001011 10111111 (R283). -/
  | res7A
  /-- `SET 0,B`: 11001011 11000000 (R284). -/
  | set0B
  /-- `SET 0,C`: 11001011 11000001 (R284). -/
  | set0C
  /-- `SET 0,D`: 11001011 11000010 (R284). -/
  | set0D
  /-- `SET 0,E`: 11001011 11000011 (R284). -/
  | set0E
  /-- `SET 0,H`: 11001011 11000100 (R284). -/
  | set0H
  /-- `SET 0,L`: 11001011 11000101 (R284). -/
  | set0L
  /-- `SET 0,(HL)`: 11001011 11000110 (R284). -/
  | set0AtHl
  /-- `SET 0,A`: 11001011 11000111 (R284). -/
  | set0A
  /-- `SET 1,B`: 11001011 11001000 (R284). -/
  | set1B
  /-- `SET 1,C`: 11001011 11001001 (R284). -/
  | set1C
  /-- `SET 1,D`: 11001011 11001010 (R284). -/
  | set1D
  /-- `SET 1,E`: 11001011 11001011 (R284). -/
  | set1E
  /-- `SET 1,H`: 11001011 11001100 (R284). -/
  | set1H
  /-- `SET 1,L`: 11001011 11001101 (R284). -/
  | set1L
  /-- `SET 1,(HL)`: 11001011 11001110 (R284). -/
  | set1AtHl
  /-- `SET 1,A`: 11001011 11001111 (R284). -/
  | set1A
  /-- `SET 2,B`: 11001011 11010000 (R284). -/
  | set2B
  /-- `SET 2,C`: 11001011 11010001 (R284). -/
  | set2C
  /-- `SET 2,D`: 11001011 11010010 (R284). -/
  | set2D
  /-- `SET 2,E`: 11001011 11010011 (R284). -/
  | set2E
  /-- `SET 2,H`: 11001011 11010100 (R284). -/
  | set2H
  /-- `SET 2,L`: 11001011 11010101 (R284). -/
  | set2L
  /-- `SET 2,(HL)`: 11001011 11010110 (R284). -/
  | set2AtHl
  /-- `SET 2,A`: 11001011 11010111 (R284). -/
  | set2A
  /-- `SET 3,B`: 11001011 11011000 (R284). -/
  | set3B
  /-- `SET 3,C`: 11001011 11011001 (R284). -/
  | set3C
  /-- `SET 3,D`: 11001011 11011010 (R284). -/
  | set3D
  /-- `SET 3,E`: 11001011 11011011 (R284). -/
  | set3E
  /-- `SET 3,H`: 11001011 11011100 (R284). -/
  | set3H
  /-- `SET 3,L`: 11001011 11011101 (R284). -/
  | set3L
  /-- `SET 3,(HL)`: 11001011 11011110 (R284). -/
  | set3AtHl
  /-- `SET 3,A`: 11001011 11011111 (R284). -/
  | set3A
  /-- `SET 4,B`: 11001011 11100000 (R284). -/
  | set4B
  /-- `SET 4,C`: 11001011 11100001 (R284). -/
  | set4C
  /-- `SET 4,D`: 11001011 11100010 (R284). -/
  | set4D
  /-- `SET 4,E`: 11001011 11100011 (R284). -/
  | set4E
  /-- `SET 4,H`: 11001011 11100100 (R284). -/
  | set4H
  /-- `SET 4,L`: 11001011 11100101 (R284). -/
  | set4L
  /-- `SET 4,(HL)`: 11001011 11100110 (R284). -/
  | set4AtHl
  /-- `SET 4,A`: 11001011 11100111 (R284). -/
  | set4A
  /-- `SET 5,B`: 11001011 11101000 (R284). -/
  | set5B
  /-- `SET 5,C`: 11001011 11101001 (R284). -/
  | set5C
  /-- `SET 5,D`: 11001011 11101010 (R284). -/
  | set5D
  /-- `SET 5,E`: 11001011 11101011 (R284). -/
  | set5E
  /-- `SET 5,H`: 11001011 11101100 (R284). -/
  | set5H
  /-- `SET 5,L`: 11001011 11101101 (R284). -/
  | set5L
  /-- `SET 5,(HL)`: 11001011 11101110 (R284). -/
  | set5AtHl
  /-- `SET 5,A`: 11001011 11101111 (R284). -/
  | set5A
  /-- `SET 6,B`: 11001011 11110000 (R284). -/
  | set6B
  /-- `SET 6,C`: 11001011 11110001 (R284). -/
  | set6C
  /-- `SET 6,D`: 11001011 11110010 (R284). -/
  | set6D
  /-- `SET 6,E`: 11001011 11110011 (R284). -/
  | set6E
  /-- `SET 6,H`: 11001011 11110100 (R284). -/
  | set6H
  /-- `SET 6,L`: 11001011 11110101 (R284). -/
  | set6L
  /-- `SET 6,(HL)`: 11001011 11110110 (R284). -/
  | set6AtHl
  /-- `SET 6,A`: 11001011 11110111 (R284). -/
  | set6A
  /-- `SET 7,B`: 11001011 11111000 (R284). -/
  | set7B
  /-- `SET 7,C`: 11001011 11111001 (R284). -/
  | set7C
  /-- `SET 7,D`: 11001011 11111010 (R284). -/
  | set7D
  /-- `SET 7,E`: 11001011 11111011 (R284). -/
  | set7E
  /-- `SET 7,H`: 11001011 11111100 (R284). -/
  | set7H
  /-- `SET 7,L`: 11001011 11111101 (R284). -/
  | set7L
  /-- `SET 7,(HL)`: 11001011 11111110 (R284). -/
  | set7AtHl
  /-- `SET 7,A`: 11001011 11111111 (R284). -/
  | set7A
deriving DecidableEq, Repr

end Sys2Proof
end

