-- ==== Sys2Proof/Machine/Operands.lean ====
section
/-! DEFINITION. Every operand form: the operand tables `r`, `rp`, `rp2`, `cc` of 30_encoding.md R96-R99 read and written on the
state, the register pairs (10_state.md R22) and AF (R25). -/

namespace Sys2Proof.Machine

/-- BC (10_state.md R22). -/
def State.bc (s : State) : Word := pairWord s.b s.c

/-- DE (10_state.md R22). -/
def State.de (s : State) : Word := pairWord s.d s.e

/-- HL (10_state.md R22). -/
def State.hl (s : State) : Word := pairWord s.h s.l

/-- AF: A and the packed flags (10_state.md R22, R24). -/
def State.af (s : State) : Word := pairWord s.a s.f.pack

/-- `BC <- w`. -/
def State.setBc (s : State) (w : Word) : State := { s with b := hiByte w, c := loByte w }

/-- `DE <- w`. -/
def State.setDe (s : State) (w : Word) : State := { s with d := hiByte w, e := loByte w }

/-- `HL <- w`. -/
def State.setHl (s : State) (w : Word) : State := { s with h := hiByte w, l := loByte w }

/-- `AF <- w` (10_state.md R25). -/
def State.setAf (s : State) (w : Word) : State := { s with a := hiByte w, f := Flags.unpack (loByte w) }

/-- The flags written. -/
def State.setFlags (s : State) (f : Flags) : State := { s with f := f }

/-- `r8[i]`, read (00_scope.md R12, 30_encoding.md R96). -/
def readR8 (s : State) : R8 → Byte
  | .b => s.b
  | .c => s.c
  | .d => s.d
  | .e => s.e
  | .h => s.h
  | .l => s.l
  | .atHl => read8 s s.hl
  | .a => s.a

/-- `r8[i] <- v` (00_scope.md R12, 30_encoding.md R96). -/
def writeR8 (s : State) (x : R8) (v : Byte) : State :=
  match x with
  | .b => { s with b := v }
  | .c => { s with c := v }
  | .d => { s with d := v }
  | .e => { s with e := v }
  | .h => { s with h := v }
  | .l => { s with l := v }
  | .atHl => write8 s s.hl v
  | .a => { s with a := v }

/-- Table `rp`, read (30_encoding.md R97). -/
def readRp (s : State) : Rp → Word
  | .bc => s.bc
  | .de => s.de
  | .hl => s.hl
  | .sp => s.sp

/-- Table `rp`, written (30_encoding.md R97). -/
def writeRp (s : State) (x : Rp) (w : Word) : State :=
  match x with
  | .bc => s.setBc w
  | .de => s.setDe w
  | .hl => s.setHl w
  | .sp => { s with sp := w }

/-- Table `rp2`, read (30_encoding.md R98). -/
def readRp2 (s : State) : Rp2 → Word
  | .bc => s.bc
  | .de => s.de
  | .hl => s.hl
  | .af => s.af

/-- Table `rp2`, written (30_encoding.md R98). -/
def writeRp2 (s : State) (x : Rp2) (w : Word) : State :=
  match x with
  | .bc => s.setBc w
  | .de => s.setDe w
  | .hl => s.setHl w
  | .af => s.setAf w

/-- `cond(cc)` (30_encoding.md R99). -/
def condHolds (f : Flags) : Cond → Bool
  | .nz => !f.z
  | .z => f.z
  | .nc => !f.c
  | .c => f.c

end Sys2Proof.Machine
end

