-- ==== Sys2Proof/Machine/Ops.lean ====
section
/-! DEFINITION. The shared operations of a step: advancing PC, taking an interrupt and returning from one, the environment's move,
`Tick`, and the HALT loop (47_system.md R320, R323; 60_exceptions.md R383-R390). -/

namespace Sys2Proof.Machine

/-- `PC <- next`: past the `n` bytes of the instruction, modulo 65536 (47_system.md R320 item 5, 10_state.md R28). -/
def State.advance (s : State) (n : Nat) : State := { s with pc := s.pc + BitVec.ofNat 16 n }

/-- IF, the byte `io[0x0F]` (10_state.md R33). -/
def State.ifByte (s : State) : Byte := Memory.read s.io 0x0F

/-- IF written. -/
def State.setIf (s : State) (v : Byte) : State := { s with io := Memory.write s.io 0x0F v }

/-- `IF & IE & 0x1F`: the enabled requests (60_exceptions.md R384). -/
def State.pending (s : State) : Byte := s.ifByte &&& s.ie &&& 0x1F

/-- The highest-priority request: the lowest-numbered set bit (60_exceptions.md R386). -/
def highestPriority (p : Byte) : Nat :=
  if p.getLsbD 0 then 0 else if p.getLsbD 1 then 1 else if p.getLsbD 2 then 2 else if p.getLsbD 3 then 3 else 4

/-- The vector of source `i` (60_exceptions.md R383). -/
def vectorOf (i : Nat) : Word := BitVec.ofNat 16 (0x0040 + 8 * i)

/-- TAKING AN INTERRUPT from source `i` (60_exceptions.md R387): IME and `halted` cleared, the served IF bit cleared, PC pushed, PC at
the vector, the dispatch cycles charged. -/
def takeInterrupt (i : Nat) (s : State) : State :=
  let s1 := { s with ime := false, halted := false }
  let s2 := s1.setIf (s1.ifByte &&& ~~~((1#8) <<< i))
  let s3 := push16 s2 s2.pc
  { s3 with pc := vectorOf i, cycles := s3.cycles + s3.params.intDispatchCycles }

/-- RETURNING FROM AN INTERRUPT (`RETI`, 46_control.md R309): PC popped, IME set at once, `ime_pending` cleared. -/
def returnFromInterrupt (s : State) : State :=
  { popState s with pc := popWord s, ime := true, imePending := false }

/-- An I/O index whose byte the environment may change: all but the joypad selection byte and IF (00_scope.md R5 (d), log 19). -/
def deviceOwned (k : Nat) : Bool := decide (k < 0x80) && decide (k ≠ 0x00) && decide (k ≠ 0x0F)

/-- One move of the environment (00_scope.md R5): device bytes, IF bits, joypad bytes, `stopped`. -/
def applyMove (m : EnvMove) (s : State) : State :=
  let s1 := { s with io := Memory.writeAll s.io (m.io.filter (fun cell => deviceOwned cell.1)) }
  let s2 := s1.setIf (s1.ifByte ||| m.irq.zeroExtend 8)
  let s3 := match m.joypad with
    | some (dpad, buttons) => { s2 with dpad := dpad, buttons := buttons }
    | none => s2
  if m.stop then { s3 with stopped := true } else s3

/-- The environment step of a `Tick`: the next move of the input list, or none when the list is empty (60_exceptions.md R390 item 2,
log 6); what the PPU answers from now on is free again (log 7). -/
def envStep (s : State) : State :=
  match s.env with
  | [] => { s with ppuEpoch := s.ppuEpoch + 1 }
  | m :: rest => applyMove m { s with ppuEpoch := s.ppuEpoch + 1, env := rest }

/-- The promotion of `ime_pending` (60_exceptions.md R388). -/
def promote (p : Bool) (s : State) : State :=
  if p && s.imePending then { s with ime := true, imePending := false } else s

/-- The interrupt check (60_exceptions.md R384, R385, R390 item 4): at most one dispatch. -/
def checkInterrupt (s : State) : State :=
  if s.ime && decide (s.pending ≠ 0) then takeInterrupt (highestPriority s.pending) s else s

/-- `Tick(n, p)` (60_exceptions.md R390). -/
def tick (n : Nat) (p : Bool) (s : State) : State :=
  checkInterrupt (promote p (envStep { s with cycles := s.cycles + n }))

/-- The HALT loop of 47_system.md R323, `fuel` turns at most. With a quantum of at least 1 the fuse ends the loop before the fuel does
when it starts with `fuel = HALT_FUSE_CYCLES` (log 17). -/
def haltLoop (p : Bool) : Nat → Nat → State → State
  | 0, _, s => { s with halted := false }
  | fuel + 1, elapsed, s =>
    let t := tick s.params.haltTickQuantum p s
    let spent := elapsed + s.params.haltTickQuantum
    if !t.halted || decide (t.pending ≠ 0) || decide (Config.haltFuseCycles ≤ spent) then { t with halted := false }
    else haltLoop p fuel spent t

end Sys2Proof.Machine
end

