-- ==== Sys2Proof/Machine/Alu16.lean ====
section
/-! DEFINITION. The 16-bit arithmetic instructions (44_alu16.md R260-R263). None can fault. -/

namespace Sys2Proof.Machine

/-- `(r, f) <- add16(HL, rp[p], fZ); HL <- r; flags <- f` (R260). -/
def addHlRp (rr : Rp) (s : State) : Result :=
  .next (((s.advance 1).setHl (add16 s.hl (readRp s rr) s.f.z).1).setFlags (add16 s.hl (readRp s rr) s.f.z).2)

/-- `(r, f) <- add_sp(SP, imm8); SP <- r; flags <- f` (R261). -/
def addSpE8 (e8 : Byte) (s : State) : Result :=
  .next { s.advance 2 with sp := (addSp s.sp e8).1, f := (addSp s.sp e8).2 }

/-- `rp[p] <- inc16(rp[p])` (R262): no flag is written. -/
def incRp (rr : Rp) (s : State) : Result := .next (writeRp (s.advance 1) rr (inc16 (readRp s rr)))

/-- `rp[p] <- dec16(rp[p])` (R263): no flag is written. -/
def decRp (rr : Rp) (s : State) : Result := .next (writeRp (s.advance 1) rr (dec16 (readRp s rr)))

/-- `INC BC` (R262). -/
def execIncBc (s : State) : Result := incRp .bc s

/-- `ADD HL,BC` (R260). -/
def execAddHlBc (s : State) : Result := addHlRp .bc s

/-- `DEC BC` (R263). -/
def execDecBc (s : State) : Result := decRp .bc s

/-- `INC DE` (R262). -/
def execIncDe (s : State) : Result := incRp .de s

/-- `ADD HL,DE` (R260). -/
def execAddHlDe (s : State) : Result := addHlRp .de s

/-- `DEC DE` (R263). -/
def execDecDe (s : State) : Result := decRp .de s

/-- `INC HL` (R262). -/
def execIncHl (s : State) : Result := incRp .hl s

/-- `ADD HL,HL` (R260). -/
def execAddHlHl (s : State) : Result := addHlRp .hl s

/-- `DEC HL` (R263). -/
def execDecHl (s : State) : Result := decRp .hl s

/-- `INC SP` (R262). -/
def execIncSp (s : State) : Result := incRp .sp s

/-- `ADD HL,SP` (R260). -/
def execAddHlSp (s : State) : Result := addHlRp .sp s

/-- `DEC SP` (R263). -/
def execDecSp (s : State) : Result := decRp .sp s

/-- `ADD SP,e8` (R261). -/
def execAddSpE8 (e8 : Byte) (s : State) : Result := addSpE8 e8 s

end Sys2Proof.Machine
end

