-- ==== Sys2Proof/Machine/Alu8.lean ====
section
/-! DEFINITION. The 8-bit arithmetic and logic instructions (43_alu8.md R230-R243): wrappers around the primitives of
40_alu_primitives.md. The operand is read before A is written; none can fault. -/

namespace Sys2Proof.Machine

/-- A and the four flags written by a primitive's answer, instruction of `n` bytes. -/
def setAcc (p : Byte × Flags) (n : Nat) (s : State) : Result := .next { s.advance n with a := p.1, f := p.2 }

/-- `(r, f) <- add8(A, v); A <- r; flags <- f` (R230). -/
def addA (v : Byte) (n : Nat) (s : State) : Result := setAcc (add8 s.a v) n s

/-- `(r, f) <- adc8(A, v, fC); A <- r; flags <- f` (R231). -/
def adcA (v : Byte) (n : Nat) (s : State) : Result := setAcc (adc8 s.a v s.f.c) n s

/-- `(r, f) <- sub8(A, v); A <- r; flags <- f` (R232). -/
def subA (v : Byte) (n : Nat) (s : State) : Result := setAcc (sub8 s.a v) n s

/-- `(r, f) <- sbc8(A, v, fC); A <- r; flags <- f` (R233). -/
def sbcA (v : Byte) (n : Nat) (s : State) : Result := setAcc (sbc8 s.a v s.f.c) n s

/-- `(r, f) <- and8(A, v); A <- r; flags <- f` (R234). -/
def andA (v : Byte) (n : Nat) (s : State) : Result := setAcc (and8 s.a v) n s

/-- `(r, f) <- xor8(A, v); A <- r; flags <- f` (R235). -/
def xorA (v : Byte) (n : Nat) (s : State) : Result := setAcc (xor8 s.a v) n s

/-- `(r, f) <- or8(A, v); A <- r; flags <- f` (R236). -/
def orA (v : Byte) (n : Nat) (s : State) : Result := setAcc (or8 s.a v) n s

/-- `flags <- cp8(A, v)` (R237): A is not written. -/
def cpA (v : Byte) (n : Nat) (s : State) : Result := .next { s.advance n with f := cp8 s.a v }

/-- `(r, f) <- inc8(r8[y], fC); r8[y] <- r; flags <- f` (R238). -/
def incR8 (x : R8) (s : State) : Result :=
  .next ((writeR8 (s.advance 1) x (inc8 (readR8 s x) s.f.c).1).setFlags (inc8 (readR8 s x) s.f.c).2)

/-- `(r, f) <- dec8(r8[y], fC); r8[y] <- r; flags <- f` (R239). -/
def decR8 (x : R8) (s : State) : Result :=
  .next ((writeR8 (s.advance 1) x (dec8 (readR8 s x) s.f.c).1).setFlags (dec8 (readR8 s x) s.f.c).2)

/-- `(r, f) <- daa(A, fN, fH, fC); A <- r; flags <- f` (R240). -/
def daaA (s : State) : Result := setAcc (daa s.a s.f.n s.f.h s.f.c) 1 s

/-- `(r, f) <- cpl(A); A <- r; flags <- f` (R241). -/
def cplA (s : State) : Result := setAcc (cpl s.a s.f) 1 s

/-- `flags <- scf()` (R242). -/
def scfC (s : State) : Result := .next { s.advance 1 with f := scf s.f }

/-- `flags <- ccf(fC)` (R243). -/
def ccfC (s : State) : Result := .next { s.advance 1 with f := ccf s.f }

/-- `INC B` (R238). -/
def execIncB (s : State) : Result := incR8 .b s

/-- `DEC B` (R239). -/
def execDecB (s : State) : Result := decR8 .b s

/-- `INC C` (R238). -/
def execIncC (s : State) : Result := incR8 .c s

/-- `DEC C` (R239). -/
def execDecC (s : State) : Result := decR8 .c s

/-- `INC D` (R238). -/
def execIncD (s : State) : Result := incR8 .d s

/-- `DEC D` (R239). -/
def execDecD (s : State) : Result := decR8 .d s

/-- `INC E` (R238). -/
def execIncE (s : State) : Result := incR8 .e s

/-- `DEC E` (R239). -/
def execDecE (s : State) : Result := decR8 .e s

/-- `INC H` (R238). -/
def execIncH (s : State) : Result := incR8 .h s

/-- `DEC H` (R239). -/
def execDecH (s : State) : Result := decR8 .h s

/-- `DAA` (R240). -/
def execDaa (s : State) : Result := daaA s

/-- `INC L` (R238). -/
def execIncL (s : State) : Result := incR8 .l s

/-- `DEC L` (R239). -/
def execDecL (s : State) : Result := decR8 .l s

/-- `CPL` (R241). -/
def execCpl (s : State) : Result := cplA s

/-- `INC (HL)` (R238). -/
def execIncAtHl (s : State) : Result := incR8 .atHl s

/-- `DEC (HL)` (R239). -/
def execDecAtHl (s : State) : Result := decR8 .atHl s

/-- `SCF` (R242). -/
def execScf (s : State) : Result := scfC s

/-- `INC A` (R238). -/
def execIncA (s : State) : Result := incR8 .a s

/-- `DEC A` (R239). -/
def execDecA (s : State) : Result := decR8 .a s

/-- `CCF` (R243). -/
def execCcf (s : State) : Result := ccfC s

/-- `ADD A,B` (R230). -/
def execAddAB (s : State) : Result := addA (readR8 s .b) 1 s

/-- `ADD A,C` (R230). -/
def execAddAC (s : State) : Result := addA (readR8 s .c) 1 s

/-- `ADD A,D` (R230). -/
def execAddAD (s : State) : Result := addA (readR8 s .d) 1 s

/-- `ADD A,E` (R230). -/
def execAddAE (s : State) : Result := addA (readR8 s .e) 1 s

/-- `ADD A,H` (R230). -/
def execAddAH (s : State) : Result := addA (readR8 s .h) 1 s

/-- `ADD A,L` (R230). -/
def execAddAL (s : State) : Result := addA (readR8 s .l) 1 s

/-- `ADD A,(HL)` (R230). -/
def execAddAAtHl (s : State) : Result := addA (readR8 s .atHl) 1 s

/-- `ADD A,A` (R230). -/
def execAddAA (s : State) : Result := addA (readR8 s .a) 1 s

/-- `ADC A,B` (R231). -/
def execAdcAB (s : State) : Result := adcA (readR8 s .b) 1 s

/-- `ADC A,C` (R231). -/
def execAdcAC (s : State) : Result := adcA (readR8 s .c) 1 s

/-- `ADC A,D` (R231). -/
def execAdcAD (s : State) : Result := adcA (readR8 s .d) 1 s

/-- `ADC A,E` (R231). -/
def execAdcAE (s : State) : Result := adcA (readR8 s .e) 1 s

/-- `ADC A,H` (R231). -/
def execAdcAH (s : State) : Result := adcA (readR8 s .h) 1 s

/-- `ADC A,L` (R231). -/
def execAdcAL (s : State) : Result := adcA (readR8 s .l) 1 s

/-- `ADC A,(HL)` (R231). -/
def execAdcAAtHl (s : State) : Result := adcA (readR8 s .atHl) 1 s

/-- `ADC A,A` (R231). -/
def execAdcAA (s : State) : Result := adcA (readR8 s .a) 1 s

/-- `SUB A,B` (R232). -/
def execSubAB (s : State) : Result := subA (readR8 s .b) 1 s

/-- `SUB A,C` (R232). -/
def execSubAC (s : State) : Result := subA (readR8 s .c) 1 s

/-- `SUB A,D` (R232). -/
def execSubAD (s : State) : Result := subA (readR8 s .d) 1 s

/-- `SUB A,E` (R232). -/
def execSubAE (s : State) : Result := subA (readR8 s .e) 1 s

/-- `SUB A,H` (R232). -/
def execSubAH (s : State) : Result := subA (readR8 s .h) 1 s

/-- `SUB A,L` (R232). -/
def execSubAL (s : State) : Result := subA (readR8 s .l) 1 s

/-- `SUB A,(HL)` (R232). -/
def execSubAAtHl (s : State) : Result := subA (readR8 s .atHl) 1 s

/-- `SUB A,A` (R232). -/
def execSubAA (s : State) : Result := subA (readR8 s .a) 1 s

/-- `SBC A,B` (R233). -/
def execSbcAB (s : State) : Result := sbcA (readR8 s .b) 1 s

/-- `SBC A,C` (R233). -/
def execSbcAC (s : State) : Result := sbcA (readR8 s .c) 1 s

/-- `SBC A,D` (R233). -/
def execSbcAD (s : State) : Result := sbcA (readR8 s .d) 1 s

/-- `SBC A,E` (R233). -/
def execSbcAE (s : State) : Result := sbcA (readR8 s .e) 1 s

/-- `SBC A,H` (R233). -/
def execSbcAH (s : State) : Result := sbcA (readR8 s .h) 1 s

/-- `SBC A,L` (R233). -/
def execSbcAL (s : State) : Result := sbcA (readR8 s .l) 1 s

/-- `SBC A,(HL)` (R233). -/
def execSbcAAtHl (s : State) : Result := sbcA (readR8 s .atHl) 1 s

/-- `SBC A,A` (R233). -/
def execSbcAA (s : State) : Result := sbcA (readR8 s .a) 1 s

/-- `AND A,B` (R234). -/
def execAndAB (s : State) : Result := andA (readR8 s .b) 1 s

/-- `AND A,C` (R234). -/
def execAndAC (s : State) : Result := andA (readR8 s .c) 1 s

/-- `AND A,D` (R234). -/
def execAndAD (s : State) : Result := andA (readR8 s .d) 1 s

/-- `AND A,E` (R234). -/
def execAndAE (s : State) : Result := andA (readR8 s .e) 1 s

/-- `AND A,H` (R234). -/
def execAndAH (s : State) : Result := andA (readR8 s .h) 1 s

/-- `AND A,L` (R234). -/
def execAndAL (s : State) : Result := andA (readR8 s .l) 1 s

/-- `AND A,(HL)` (R234). -/
def execAndAAtHl (s : State) : Result := andA (readR8 s .atHl) 1 s

/-- `AND A,A` (R234). -/
def execAndAA (s : State) : Result := andA (readR8 s .a) 1 s

/-- `XOR A,B` (R235). -/
def execXorAB (s : State) : Result := xorA (readR8 s .b) 1 s

/-- `XOR A,C` (R235). -/
def execXorAC (s : State) : Result := xorA (readR8 s .c) 1 s

/-- `XOR A,D` (R235). -/
def execXorAD (s : State) : Result := xorA (readR8 s .d) 1 s

/-- `XOR A,E` (R235). -/
def execXorAE (s : State) : Result := xorA (readR8 s .e) 1 s

/-- `XOR A,H` (R235). -/
def execXorAH (s : State) : Result := xorA (readR8 s .h) 1 s

/-- `XOR A,L` (R235). -/
def execXorAL (s : State) : Result := xorA (readR8 s .l) 1 s

/-- `XOR A,(HL)` (R235). -/
def execXorAAtHl (s : State) : Result := xorA (readR8 s .atHl) 1 s

/-- `XOR A,A` (R235). -/
def execXorAA (s : State) : Result := xorA (readR8 s .a) 1 s

/-- `OR A,B` (R236). -/
def execOrAB (s : State) : Result := orA (readR8 s .b) 1 s

/-- `OR A,C` (R236). -/
def execOrAC (s : State) : Result := orA (readR8 s .c) 1 s

/-- `OR A,D` (R236). -/
def execOrAD (s : State) : Result := orA (readR8 s .d) 1 s

/-- `OR A,E` (R236). -/
def execOrAE (s : State) : Result := orA (readR8 s .e) 1 s

/-- `OR A,H` (R236). -/
def execOrAH (s : State) : Result := orA (readR8 s .h) 1 s

/-- `OR A,L` (R236). -/
def execOrAL (s : State) : Result := orA (readR8 s .l) 1 s

/-- `OR A,(HL)` (R236). -/
def execOrAAtHl (s : State) : Result := orA (readR8 s .atHl) 1 s

/-- `OR A,A` (R236). -/
def execOrAA (s : State) : Result := orA (readR8 s .a) 1 s

/-- `CP A,B` (R237). -/
def execCpAB (s : State) : Result := cpA (readR8 s .b) 1 s

/-- `CP A,C` (R237). -/
def execCpAC (s : State) : Result := cpA (readR8 s .c) 1 s

/-- `CP A,D` (R237). -/
def execCpAD (s : State) : Result := cpA (readR8 s .d) 1 s

/-- `CP A,E` (R237). -/
def execCpAE (s : State) : Result := cpA (readR8 s .e) 1 s

/-- `CP A,H` (R237). -/
def execCpAH (s : State) : Result := cpA (readR8 s .h) 1 s

/-- `CP A,L` (R237). -/
def execCpAL (s : State) : Result := cpA (readR8 s .l) 1 s

/-- `CP A,(HL)` (R237). -/
def execCpAAtHl (s : State) : Result := cpA (readR8 s .atHl) 1 s

/-- `CP A,A` (R237). -/
def execCpAA (s : State) : Result := cpA (readR8 s .a) 1 s

/-- `ADD A,d8` (R230). -/
def execAddAD8 (d8 : Byte) (s : State) : Result := addA d8 2 s

/-- `ADC A,d8` (R231). -/
def execAdcAD8 (d8 : Byte) (s : State) : Result := adcA d8 2 s

/-- `SUB A,d8` (R232). -/
def execSubAD8 (d8 : Byte) (s : State) : Result := subA d8 2 s

/-- `SBC A,d8` (R233). -/
def execSbcAD8 (d8 : Byte) (s : State) : Result := sbcA d8 2 s

/-- `AND A,d8` (R234). -/
def execAndAD8 (d8 : Byte) (s : State) : Result := andA d8 2 s

/-- `XOR A,d8` (R235). -/
def execXorAD8 (d8 : Byte) (s : State) : Result := xorA d8 2 s

/-- `OR A,d8` (R236). -/
def execOrAD8 (d8 : Byte) (s : State) : Result := orA d8 2 s

/-- `CP A,d8` (R237). -/
def execCpAD8 (d8 : Byte) (s : State) : Result := cpA d8 2 s

end Sys2Proof.Machine
end

