-- ==== Sys2Proof/Machine/Control.lean ====
section
/-! DEFINITION. The control transfer instructions (46_control.md R300-R312). No flag is written; none can fault. -/

namespace Sys2Proof.Machine

/-- `pc <- target` (R300, R302). -/
def jump (target : Word) (s : State) : Result := .next { s with pc := target }

/-- `if cond(cc) then pc <- imm16 else pc <- next` (R301). -/
def jumpIf (cc : Cond) (a16 : Word) (s : State) : Result :=
  if condHolds s.f cc then jump a16 s else .next (s.advance 3)

/-- `pc <- next + sext_16(imm8)`, `next` the address after the 2 bytes (R303). -/
def jumpRel (e8 : Byte) (s : State) : Result := .next { s with pc := (s.advance 2).pc + sext16 e8 }

/-- `if cond(cc) then pc <- next + sext_16(imm8) else pc <- next` (R304). -/
def jumpRelIf (cc : Cond) (e8 : Byte) (s : State) : Result :=
  if condHolds s.f cc then jumpRel e8 s else .next (s.advance 2)

/-- `push16(next); pc <- imm16`, `next` the address after the 3 bytes (R305). -/
def callTo (a16 : Word) (s : State) : Result := .next { push16 s (s.advance 3).pc with pc := a16 }

/-- `if cond(cc) then push16(next); pc <- imm16 else pc <- next` (R306). -/
def callIf (cc : Cond) (a16 : Word) (s : State) : Result :=
  if condHolds s.f cc then callTo a16 s else .next (s.advance 3)

/-- `pc <- pop16()` (R307). -/
def returnTo (s : State) : Result := .next { popState s with pc := popWord s }

/-- `if cond(cc) then pc <- pop16() else pc <- next` (R308). -/
def returnIf (cc : Cond) (s : State) : Result :=
  if condHolds s.f cc then returnTo s else .next (s.advance 1)

/-- `pc <- pop16(); ime <- 1; ime_pending <- 0` (R309). -/
def returnFromHandler (s : State) : Result := .next (returnFromInterrupt s)

/-- `push16(next); pc <- y * 8`, `next` the address after the 1 byte (R310). -/
def restart (y : Fin 8) (s : State) : Result :=
  .next { push16 s (s.advance 1).pc with pc := BitVec.ofNat 16 (y.val * 8) }

/-- `JR e8` (R303). -/
def execJrE8 (e8 : Byte) (s : State) : Result := jumpRel e8 s

/-- `JR NZ,e8` (R304). -/
def execJrNzE8 (e8 : Byte) (s : State) : Result := jumpRelIf .nz e8 s

/-- `JR Z,e8` (R304). -/
def execJrZE8 (e8 : Byte) (s : State) : Result := jumpRelIf .z e8 s

/-- `JR NC,e8` (R304). -/
def execJrNcE8 (e8 : Byte) (s : State) : Result := jumpRelIf .nc e8 s

/-- `JR C,e8` (R304). -/
def execJrCE8 (e8 : Byte) (s : State) : Result := jumpRelIf .c e8 s

/-- `RET NZ` (R308). -/
def execRetNz (s : State) : Result := returnIf .nz s

/-- `JP NZ,a16` (R301). -/
def execJpNzA16 (a16 : Word) (s : State) : Result := jumpIf .nz a16 s

/-- `JP a16` (R300). -/
def execJpA16 (a16 : Word) (s : State) : Result := jump a16 s

/-- `CALL NZ,a16` (R306). -/
def execCallNzA16 (a16 : Word) (s : State) : Result := callIf .nz a16 s

/-- `RST 0x00` (R310). -/
def execRst00 (s : State) : Result := restart 0 s

/-- `RET Z` (R308). -/
def execRetZ (s : State) : Result := returnIf .z s

/-- `RET` (R307). -/
def execRet (s : State) : Result := returnTo s

/-- `JP Z,a16` (R301). -/
def execJpZA16 (a16 : Word) (s : State) : Result := jumpIf .z a16 s

/-- `CALL Z,a16` (R306). -/
def execCallZA16 (a16 : Word) (s : State) : Result := callIf .z a16 s

/-- `CALL a16` (R305). -/
def execCallA16 (a16 : Word) (s : State) : Result := callTo a16 s

/-- `RST 0x08` (R310). -/
def execRst08 (s : State) : Result := restart 1 s

/-- `RET NC` (R308). -/
def execRetNc (s : State) : Result := returnIf .nc s

/-- `JP NC,a16` (R301). -/
def execJpNcA16 (a16 : Word) (s : State) : Result := jumpIf .nc a16 s

/-- `CALL NC,a16` (R306). -/
def execCallNcA16 (a16 : Word) (s : State) : Result := callIf .nc a16 s

/-- `RST 0x10` (R310). -/
def execRst10 (s : State) : Result := restart 2 s

/-- `RET C` (R308). -/
def execRetC (s : State) : Result := returnIf .c s

/-- `RETI` (R309). -/
def execReti (s : State) : Result := returnFromHandler s

/-- `JP C,a16` (R301). -/
def execJpCA16 (a16 : Word) (s : State) : Result := jumpIf .c a16 s

/-- `CALL C,a16` (R306). -/
def execCallCA16 (a16 : Word) (s : State) : Result := callIf .c a16 s

/-- `RST 0x18` (R310). -/
def execRst18 (s : State) : Result := restart 3 s

/-- `RST 0x20` (R310). -/
def execRst20 (s : State) : Result := restart 4 s

/-- `JP HL` (R302). -/
def execJpHl (s : State) : Result := jump s.hl s

/-- `RST 0x28` (R310). -/
def execRst28 (s : State) : Result := restart 5 s

/-- `RST 0x30` (R310). -/
def execRst30 (s : State) : Result := restart 6 s

/-- `RST 0x38` (R310). -/
def execRst38 (s : State) : Result := restart 7 s

end Sys2Proof.Machine
end

