-- ==== Sys2Proof/Machine/Load16.lean ====
section
/-! DEFINITION. The 16-bit loads and the stack instructions (42_load16_stack.md R210-R215). None can fault. -/

namespace Sys2Proof.Machine

/-- `rp[p] <- imm16` (R210). -/
def ldRp (rr : Rp) (d16 : Word) (s : State) : Result := .next (writeRp (s.advance 3) rr d16)

/-- `MemWrite(imm16, 2, SP)` (R211). -/
def storeSp (a16 : Word) (s : State) : Result := .next (write16 (s.advance 3) a16 s.sp)

/-- `SP <- HL` (R212). -/
def ldSpHl (s : State) : Result := .next { s.advance 1 with sp := s.hl }

/-- `(r, f) <- add_sp(SP, imm8); HL <- r; flags <- f` (R213): SP unchanged. -/
def ldHlSpE8 (e8 : Byte) (s : State) : Result :=
  .next (((s.advance 2).setHl (addSp s.sp e8).1).setFlags (addSp s.sp e8).2)

/-- `push16(rp2[p])` (R214). -/
def pushRp2 (rr : Rp2) (s : State) : Result := .next (push16 (s.advance 1) (readRp2 s rr))

/-- `w <- pop16(); rp2[p] <- w` (R215). -/
def popRp2 (rr : Rp2) (s : State) : Result := .next (writeRp2 (popState (s.advance 1)) rr (popWord s))

/-- `LD BC,d16` (R210). -/
def execLdBcD16 (d16 : Word) (s : State) : Result := ldRp .bc d16 s

/-- `LD (a16),SP` (R211). -/
def execLdAtA16Sp (a16 : Word) (s : State) : Result := storeSp a16 s

/-- `LD DE,d16` (R210). -/
def execLdDeD16 (d16 : Word) (s : State) : Result := ldRp .de d16 s

/-- `LD HL,d16` (R210). -/
def execLdHlD16 (d16 : Word) (s : State) : Result := ldRp .hl d16 s

/-- `LD SP,d16` (R210). -/
def execLdSpD16 (d16 : Word) (s : State) : Result := ldRp .sp d16 s

/-- `POP BC` (R215). -/
def execPopBc (s : State) : Result := popRp2 .bc s

/-- `PUSH BC` (R214). -/
def execPushBc (s : State) : Result := pushRp2 .bc s

/-- `POP DE` (R215). -/
def execPopDe (s : State) : Result := popRp2 .de s

/-- `PUSH DE` (R214). -/
def execPushDe (s : State) : Result := pushRp2 .de s

/-- `POP HL` (R215). -/
def execPopHl (s : State) : Result := popRp2 .hl s

/-- `PUSH HL` (R214). -/
def execPushHl (s : State) : Result := pushRp2 .hl s

/-- `POP AF` (R215). -/
def execPopAf (s : State) : Result := popRp2 .af s

/-- `PUSH AF` (R214). -/
def execPushAf (s : State) : Result := pushRp2 .af s

/-- `LD HL,SP+e8` (R213). -/
def execLdHlSpE8 (e8 : Byte) (s : State) : Result := ldHlSpE8 e8 s

/-- `LD SP,HL` (R212). -/
def execLdSpHl (s : State) : Result := ldSpHl s

end Sys2Proof.Machine
end

