-- ==== Sys2Proof/Machine/Load8.lean ====
section
/-! DEFINITION. The 8-bit loads (41_load8.md R180-R198). No flag is read or written; none can fault. -/

namespace Sys2Proof.Machine

/-- `r8[y] <- r8[z]` (R180, R182, R183): the source is read before the destination is written. -/
def ldR8 (dst src : R8) (s : State) : Result := .next (writeR8 (s.advance 1) dst (readR8 s src))

/-- `r8[y] <- imm8` (R181, R184). -/
def ldR8Imm (dst : R8) (d8 : Byte) (s : State) : Result := .next (writeR8 (s.advance 2) dst d8)

/-- `A <- MemRead(addr, 1)`, instruction of `n` bytes (R185, R186, R189, R191, R193). -/
def loadA (addr : Word) (n : Nat) (s : State) : Result := .next { s.advance n with a := read8 s addr }

/-- `MemWrite(addr, 1, A)`, instruction of `n` bytes (R187, R188, R190, R192, R194). -/
def storeA (addr : Word) (n : Nat) (s : State) : Result := .next (write8 (s.advance n) addr s.a)

/-- `A <- MemRead(HL, 1); HL <- HL + step` (R195, R197). -/
def loadAHl (step : Word) (s : State) : Result :=
  .next (State.setHl { s.advance 1 with a := read8 s s.hl } (s.hl + step))

/-- `MemWrite(HL, 1, A); HL <- HL + step` (R196, R198): the store uses HL before the change. -/
def storeAHl (step : Word) (s : State) : Result :=
  .next (State.setHl (write8 (s.advance 1) s.hl s.a) (s.hl + step))

/-- `LD (BC),A` (R187). -/
def execLdAtBcA (s : State) : Result := storeA s.bc 1 s

/-- `LD B,d8` (R181). -/
def execLdBD8 (d8 : Byte) (s : State) : Result := ldR8Imm .b d8 s

/-- `LD A,(BC)` (R185). -/
def execLdAAtBc (s : State) : Result := loadA s.bc 1 s

/-- `LD C,d8` (R181). -/
def execLdCD8 (d8 : Byte) (s : State) : Result := ldR8Imm .c d8 s

/-- `LD (DE),A` (R188). -/
def execLdAtDeA (s : State) : Result := storeA s.de 1 s

/-- `LD D,d8` (R181). -/
def execLdDD8 (d8 : Byte) (s : State) : Result := ldR8Imm .d d8 s

/-- `LD A,(DE)` (R186). -/
def execLdAAtDe (s : State) : Result := loadA s.de 1 s

/-- `LD E,d8` (R181). -/
def execLdED8 (d8 : Byte) (s : State) : Result := ldR8Imm .e d8 s

/-- `LD (HL+),A` (R198). -/
def execLdAtHlIncA (s : State) : Result := storeAHl 1 s

/-- `LD H,d8` (R181). -/
def execLdHD8 (d8 : Byte) (s : State) : Result := ldR8Imm .h d8 s

/-- `LD A,(HL+)` (R197). -/
def execLdAAtHlInc (s : State) : Result := loadAHl 1 s

/-- `LD L,d8` (R181). -/
def execLdLD8 (d8 : Byte) (s : State) : Result := ldR8Imm .l d8 s

/-- `LD (HL-),A` (R196). -/
def execLdAtHlDecA (s : State) : Result := storeAHl (-1) s

/-- `LD (HL),d8` (R184). -/
def execLdAtHlD8 (d8 : Byte) (s : State) : Result := ldR8Imm .atHl d8 s

/-- `LD A,(HL-)` (R195). -/
def execLdAAtHlDec (s : State) : Result := loadAHl (-1) s

/-- `LD A,d8` (R181). -/
def execLdAD8 (d8 : Byte) (s : State) : Result := ldR8Imm .a d8 s

/-- `LD B,B` (R180). -/
def execLdBB (s : State) : Result := ldR8 .b .b s

/-- `LD B,C` (R180). -/
def execLdBC (s : State) : Result := ldR8 .b .c s

/-- `LD B,D` (R180). -/
def execLdBD (s : State) : Result := ldR8 .b .d s

/-- `LD B,E` (R180). -/
def execLdBE (s : State) : Result := ldR8 .b .e s

/-- `LD B,H` (R180). -/
def execLdBH (s : State) : Result := ldR8 .b .h s

/-- `LD B,L` (R180). -/
def execLdBL (s : State) : Result := ldR8 .b .l s

/-- `LD B,(HL)` (R182). -/
def execLdBAtHl (s : State) : Result := ldR8 .b .atHl s

/-- `LD B,A` (R180). -/
def execLdBA (s : State) : Result := ldR8 .b .a s

/-- `LD C,B` (R180). -/
def execLdCB (s : State) : Result := ldR8 .c .b s

/-- `LD C,C` (R180). -/
def execLdCC (s : State) : Result := ldR8 .c .c s

/-- `LD C,D` (R180). -/
def execLdCD (s : State) : Result := ldR8 .c .d s

/-- `LD C,E` (R180). -/
def execLdCE (s : State) : Result := ldR8 .c .e s

/-- `LD C,H` (R180). -/
def execLdCH (s : State) : Result := ldR8 .c .h s

/-- `LD C,L` (R180). -/
def execLdCL (s : State) : Result := ldR8 .c .l s

/-- `LD C,(HL)` (R182). -/
def execLdCAtHl (s : State) : Result := ldR8 .c .atHl s

/-- `LD C,A` (R180). -/
def execLdCA (s : State) : Result := ldR8 .c .a s

/-- `LD D,B` (R180). -/
def execLdDB (s : State) : Result := ldR8 .d .b s

/-- `LD D,C` (R180). -/
def execLdDC (s : State) : Result := ldR8 .d .c s

/-- `LD D,D` (R180). -/
def execLdDD (s : State) : Result := ldR8 .d .d s

/-- `LD D,E` (R180). -/
def execLdDE (s : State) : Result := ldR8 .d .e s

/-- `LD D,H` (R180). -/
def execLdDH (s : State) : Result := ldR8 .d .h s

/-- `LD D,L` (R180). -/
def execLdDL (s : State) : Result := ldR8 .d .l s

/-- `LD D,(HL)` (R182). -/
def execLdDAtHl (s : State) : Result := ldR8 .d .atHl s

/-- `LD D,A` (R180). -/
def execLdDA (s : State) : Result := ldR8 .d .a s

/-- `LD E,B` (R180). -/
def execLdEB (s : State) : Result := ldR8 .e .b s

/-- `LD E,C` (R180). -/
def execLdEC (s : State) : Result := ldR8 .e .c s

/-- `LD E,D` (R180). -/
def execLdED (s : State) : Result := ldR8 .e .d s

/-- `LD E,E` (R180). -/
def execLdEE (s : State) : Result := ldR8 .e .e s

/-- `LD E,H` (R180). -/
def execLdEH (s : State) : Result := ldR8 .e .h s

/-- `LD E,L` (R180). -/
def execLdEL (s : State) : Result := ldR8 .e .l s

/-- `LD E,(HL)` (R182). -/
def execLdEAtHl (s : State) : Result := ldR8 .e .atHl s

/-- `LD E,A` (R180). -/
def execLdEA (s : State) : Result := ldR8 .e .a s

/-- `LD H,B` (R180). -/
def execLdHB (s : State) : Result := ldR8 .h .b s

/-- `LD H,C` (R180). -/
def execLdHC (s : State) : Result := ldR8 .h .c s

/-- `LD H,D` (R180). -/
def execLdHD (s : State) : Result := ldR8 .h .d s

/-- `LD H,E` (R180). -/
def execLdHE (s : State) : Result := ldR8 .h .e s

/-- `LD H,H` (R180). -/
def execLdHH (s : State) : Result := ldR8 .h .h s

/-- `LD H,L` (R180). -/
def execLdHL (s : State) : Result := ldR8 .h .l s

/-- `LD H,(HL)` (R182). -/
def execLdHAtHl (s : State) : Result := ldR8 .h .atHl s

/-- `LD H,A` (R180). -/
def execLdHA (s : State) : Result := ldR8 .h .a s

/-- `LD L,B` (R180). -/
def execLdLB (s : State) : Result := ldR8 .l .b s

/-- `LD L,C` (R180). -/
def execLdLC (s : State) : Result := ldR8 .l .c s

/-- `LD L,D` (R180). -/
def execLdLD (s : State) : Result := ldR8 .l .d s

/-- `LD L,E` (R180). -/
def execLdLE (s : State) : Result := ldR8 .l .e s

/-- `LD L,H` (R180). -/
def execLdLH (s : State) : Result := ldR8 .l .h s

/-- `LD L,L` (R180). -/
def execLdLL (s : State) : Result := ldR8 .l .l s

/-- `LD L,(HL)` (R182). -/
def execLdLAtHl (s : State) : Result := ldR8 .l .atHl s

/-- `LD L,A` (R180). -/
def execLdLA (s : State) : Result := ldR8 .l .a s

/-- `LD (HL),B` (R183). -/
def execLdAtHlB (s : State) : Result := ldR8 .atHl .b s

/-- `LD (HL),C` (R183). -/
def execLdAtHlC (s : State) : Result := ldR8 .atHl .c s

/-- `LD (HL),D` (R183). -/
def execLdAtHlD (s : State) : Result := ldR8 .atHl .d s

/-- `LD (HL),E` (R183). -/
def execLdAtHlE (s : State) : Result := ldR8 .atHl .e s

/-- `LD (HL),H` (R183). -/
def execLdAtHlH (s : State) : Result := ldR8 .atHl .h s

/-- `LD (HL),L` (R183). -/
def execLdAtHlL (s : State) : Result := ldR8 .atHl .l s

/-- `LD (HL),A` (R183). -/
def execLdAtHlA (s : State) : Result := ldR8 .atHl .a s

/-- `LD A,B` (R180). -/
def execLdAB (s : State) : Result := ldR8 .a .b s

/-- `LD A,C` (R180). -/
def execLdAC (s : State) : Result := ldR8 .a .c s

/-- `LD A,D` (R180). -/
def execLdAD (s : State) : Result := ldR8 .a .d s

/-- `LD A,E` (R180). -/
def execLdAE (s : State) : Result := ldR8 .a .e s

/-- `LD A,H` (R180). -/
def execLdAH (s : State) : Result := ldR8 .a .h s

/-- `LD A,L` (R180). -/
def execLdAL (s : State) : Result := ldR8 .a .l s

/-- `LD A,(HL)` (R182). -/
def execLdAAtHl (s : State) : Result := ldR8 .a .atHl s

/-- `LD A,A` (R180). -/
def execLdAA (s : State) : Result := ldR8 .a .a s

/-- `LDH (a8),A` (R194). -/
def execLdhAtA8A (a8 : Byte) (s : State) : Result := storeA (highPage a8) 2 s

/-- `LDH (C),A` (R192). -/
def execLdhAtCA (s : State) : Result := storeA (highPage s.c) 1 s

/-- `LD (a16),A` (R190). -/
def execLdAtA16A (a16 : Word) (s : State) : Result := storeA a16 3 s

/-- `LDH A,(a8)` (R193). -/
def execLdhAAtA8 (a8 : Byte) (s : State) : Result := loadA (highPage a8) 2 s

/-- `LDH A,(C)` (R191). -/
def execLdhAAtC (s : State) : Result := loadA (highPage s.c) 1 s

/-- `LD A,(a16)` (R189). -/
def execLdAAtA16 (a16 : Word) (s : State) : Result := loadA a16 3 s

end Sys2Proof.Machine
end

