-- ==== Sys2Proof/Machine/Rotate.lean ====
section
/-! DEFINITION. The rotate, shift and bit instructions (45_rotate_bit.md R270-R285). None can fault. -/

namespace Sys2Proof.Machine

/-- The primitive an accumulator rotate applies to A and C (40_alu_primitives.md R160). -/
def rotAccResult (op : RotAOp) (a : Byte) (c : Bool) : Byte × Flags :=
  match op with
  | .rlca => rlca a
  | .rrca => rrca a
  | .rla => rla a c
  | .rra => rra a c

/-- `(r, f) <- op(A, fC); A <- r; flags <- f` (R270-R273). -/
def rotAcc (op : RotAOp) (s : State) : Result :=
  .next { s.advance 1 with a := (rotAccResult op s.a s.f.c).1, f := (rotAccResult op s.a s.f.c).2 }

/-- The primitive a CB rotate or shift applies to its operand and C (40_alu_primitives.md R149-R156). -/
def rotResult (op : RotOp) (v : Byte) (c : Bool) : Byte × Flags :=
  match op with
  | .rlc => rlc v
  | .rrc => rrc v
  | .rl => rl v c
  | .rr => rr v c
  | .sla => sla v
  | .sra => sra v
  | .swap => swapNibbles v
  | .srl => srl v

/-- `(r, f) <- op(r8[z], fC); r8[z] <- r; flags <- f` (R274-R281, R285). -/
def rotR8 (op : RotOp) (x : R8) (s : State) : Result :=
  .next ((writeR8 (s.advance 2) x (rotResult op (readR8 s x) s.f.c).1).setFlags (rotResult op (readR8 s x) s.f.c).2)

/-- `flags <- bit(n, r8[z], fC)` (R282): nothing else is written. -/
def bitR8 (n : Fin 8) (x : R8) (s : State) : Result := .next ((s.advance 2).setFlags (bitTest n (readR8 s x) s.f.c))

/-- `r8[z] <- res(n, r8[z])` (R283): no flag is written. -/
def resR8 (n : Fin 8) (x : R8) (s : State) : Result := .next (writeR8 (s.advance 2) x (resBit n (readR8 s x)))

/-- `r8[z] <- set(n, r8[z])` (R284): no flag is written. -/
def setR8 (n : Fin 8) (x : R8) (s : State) : Result := .next (writeR8 (s.advance 2) x (setBit n (readR8 s x)))

/-- The rule of a CB instruction by its fields (R285). -/
def cbMeaning (op : CbForm) (s : State) : Result :=
  match op with
  | .rot op x => rotR8 op x s
  | .bit n x => bitR8 n x s
  | .res n x => resR8 n x s
  | .set n x => setR8 n x s

/-- `RLCA` (R270). -/
def execRlca (s : State) : Result := rotAcc .rlca s

/-- `RRCA` (R271). -/
def execRrca (s : State) : Result := rotAcc .rrca s

/-- `RLA` (R272). -/
def execRla (s : State) : Result := rotAcc .rla s

/-- `RRA` (R273). -/
def execRra (s : State) : Result := rotAcc .rra s

/-- `RLC B` (R274). -/
def execRlcB (s : State) : Result := rotR8 .rlc .b s

/-- `RLC C` (R274). -/
def execRlcC (s : State) : Result := rotR8 .rlc .c s

/-- `RLC D` (R274). -/
def execRlcD (s : State) : Result := rotR8 .rlc .d s

/-- `RLC E` (R274). -/
def execRlcE (s : State) : Result := rotR8 .rlc .e s

/-- `RLC H` (R274). -/
def execRlcH (s : State) : Result := rotR8 .rlc .h s

/-- `RLC L` (R274). -/
def execRlcL (s : State) : Result := rotR8 .rlc .l s

/-- `RLC (HL)` (R274). -/
def execRlcAtHl (s : State) : Result := rotR8 .rlc .atHl s

/-- `RLC A` (R274). -/
def execRlcA (s : State) : Result := rotR8 .rlc .a s

/-- `RRC B` (R275). -/
def execRrcB (s : State) : Result := rotR8 .rrc .b s

/-- `RRC C` (R275). -/
def execRrcC (s : State) : Result := rotR8 .rrc .c s

/-- `RRC D` (R275). -/
def execRrcD (s : State) : Result := rotR8 .rrc .d s

/-- `RRC E` (R275). -/
def execRrcE (s : State) : Result := rotR8 .rrc .e s

/-- `RRC H` (R275). -/
def execRrcH (s : State) : Result := rotR8 .rrc .h s

/-- `RRC L` (R275). -/
def execRrcL (s : State) : Result := rotR8 .rrc .l s

/-- `RRC (HL)` (R275). -/
def execRrcAtHl (s : State) : Result := rotR8 .rrc .atHl s

/-- `RRC A` (R275). -/
def execRrcA (s : State) : Result := rotR8 .rrc .a s

/-- `RL B` (R276). -/
def execRlB (s : State) : Result := rotR8 .rl .b s

/-- `RL C` (R276). -/
def execRlC (s : State) : Result := rotR8 .rl .c s

/-- `RL D` (R276). -/
def execRlD (s : State) : Result := rotR8 .rl .d s

/-- `RL E` (R276). -/
def execRlE (s : State) : Result := rotR8 .rl .e s

/-- `RL H` (R276). -/
def execRlH (s : State) : Result := rotR8 .rl .h s

/-- `RL L` (R276). -/
def execRlL (s : State) : Result := rotR8 .rl .l s

/-- `RL (HL)` (R276). -/
def execRlAtHl (s : State) : Result := rotR8 .rl .atHl s

/-- `RL A` (R276). -/
def execRlA (s : State) : Result := rotR8 .rl .a s

/-- `RR B` (R277). -/
def execRrB (s : State) : Result := rotR8 .rr .b s

/-- `RR C` (R277). -/
def execRrC (s : State) : Result := rotR8 .rr .c s

/-- `RR D` (R277). -/
def execRrD (s : State) : Result := rotR8 .rr .d s

/-- `RR E` (R277). -/
def execRrE (s : State) : Result := rotR8 .rr .e s

/-- `RR H` (R277). -/
def execRrH (s : State) : Result := rotR8 .rr .h s

/-- `RR L` (R277). -/
def execRrL (s : State) : Result := rotR8 .rr .l s

/-- `RR (HL)` (R277). -/
def execRrAtHl (s : State) : Result := rotR8 .rr .atHl s

/-- `RR A` (R277). -/
def execRrA (s : State) : Result := rotR8 .rr .a s

/-- `SLA B` (R278). -/
def execSlaB (s : State) : Result := rotR8 .sla .b s

/-- `SLA C` (R278). -/
def execSlaC (s : State) : Result := rotR8 .sla .c s

/-- `SLA D` (R278). -/
def execSlaD (s : State) : Result := rotR8 .sla .d s

/-- `SLA E` (R278). -/
def execSlaE (s : State) : Result := rotR8 .sla .e s

/-- `SLA H` (R278). -/
def execSlaH (s : State) : Result := rotR8 .sla .h s

/-- `SLA L` (R278). -/
def execSlaL (s : State) : Result := rotR8 .sla .l s

/-- `SLA (HL)` (R278). -/
def execSlaAtHl (s : State) : Result := rotR8 .sla .atHl s

/-- `SLA A` (R278). -/
def execSlaA (s : State) : Result := rotR8 .sla .a s

/-- `SRA B` (R279). -/
def execSraB (s : State) : Result := rotR8 .sra .b s

/-- `SRA C` (R279). -/
def execSraC (s : State) : Result := rotR8 .sra .c s

/-- `SRA D` (R279). -/
def execSraD (s : State) : Result := rotR8 .sra .d s

/-- `SRA E` (R279). -/
def execSraE (s : State) : Result := rotR8 .sra .e s

/-- `SRA H` (R279). -/
def execSraH (s : State) : Result := rotR8 .sra .h s

/-- `SRA L` (R279). -/
def execSraL (s : State) : Result := rotR8 .sra .l s

/-- `SRA (HL)` (R279). -/
def execSraAtHl (s : State) : Result := rotR8 .sra .atHl s

/-- `SRA A` (R279). -/
def execSraA (s : State) : Result := rotR8 .sra .a s

/-- `SWAP B` (R280). -/
def execSwapB (s : State) : Result := rotR8 .swap .b s

/-- `SWAP C` (R280). -/
def execSwapC (s : State) : Result := rotR8 .swap .c s

/-- `SWAP D` (R280). -/
def execSwapD (s : State) : Result := rotR8 .swap .d s

/-- `SWAP E` (R280). -/
def execSwapE (s : State) : Result := rotR8 .swap .e s

/-- `SWAP H` (R280). -/
def execSwapH (s : State) : Result := rotR8 .swap .h s

/-- `SWAP L` (R280). -/
def execSwapL (s : State) : Result := rotR8 .swap .l s

/-- `SWAP (HL)` (R280). -/
def execSwapAtHl (s : State) : Result := rotR8 .swap .atHl s

/-- `SWAP A` (R280). -/
def execSwapA (s : State) : Result := rotR8 .swap .a s

/-- `SRL B` (R281). -/
def execSrlB (s : State) : Result := rotR8 .srl .b s

/-- `SRL C` (R281). -/
def execSrlC (s : State) : Result := rotR8 .srl .c s

/-- `SRL D` (R281). -/
def execSrlD (s : State) : Result := rotR8 .srl .d s

/-- `SRL E` (R281). -/
def execSrlE (s : State) : Result := rotR8 .srl .e s

/-- `SRL H` (R281). -/
def execSrlH (s : State) : Result := rotR8 .srl .h s

/-- `SRL L` (R281). -/
def execSrlL (s : State) : Result := rotR8 .srl .l s

/-- `SRL (HL)` (R281). -/
def execSrlAtHl (s : State) : Result := rotR8 .srl .atHl s

/-- `SRL A` (R281). -/
def execSrlA (s : State) : Result := rotR8 .srl .a s

/-- `BIT 0,B` (R282). -/
def execBit0B (s : State) : Result := bitR8 0 .b s

/-- `BIT 0,C` (R282). -/
def execBit0C (s : State) : Result := bitR8 0 .c s

/-- `BIT 0,D` (R282). -/
def execBit0D (s : State) : Result := bitR8 0 .d s

/-- `BIT 0,E` (R282). -/
def execBit0E (s : State) : Result := bitR8 0 .e s

/-- `BIT 0,H` (R282). -/
def execBit0H (s : State) : Result := bitR8 0 .h s

/-- `BIT 0,L` (R282). -/
def execBit0L (s : State) : Result := bitR8 0 .l s

/-- `BIT 0,(HL)` (R282). -/
def execBit0AtHl (s : State) : Result := bitR8 0 .atHl s

/-- `BIT 0,A` (R282). -/
def execBit0A (s : State) : Result := bitR8 0 .a s

/-- `BIT 1,B` (R282). -/
def execBit1B (s : State) : Result := bitR8 1 .b s

/-- `BIT 1,C` (R282). -/
def execBit1C (s : State) : Result := bitR8 1 .c s

/-- `BIT 1,D` (R282). -/
def execBit1D (s : State) : Result := bitR8 1 .d s

/-- `BIT 1,E` (R282). -/
def execBit1E (s : State) : Result := bitR8 1 .e s

/-- `BIT 1,H` (R282). -/
def execBit1H (s : State) : Result := bitR8 1 .h s

/-- `BIT 1,L` (R282). -/
def execBit1L (s : State) : Result := bitR8 1 .l s

/-- `BIT 1,(HL)` (R282). -/
def execBit1AtHl (s : State) : Result := bitR8 1 .atHl s

/-- `BIT 1,A` (R282). -/
def execBit1A (s : State) : Result := bitR8 1 .a s

/-- `BIT 2,B` (R282). -/
def execBit2B (s : State) : Result := bitR8 2 .b s

/-- `BIT 2,C` (R282). -/
def execBit2C (s : State) : Result := bitR8 2 .c s

/-- `BIT 2,D` (R282). -/
def execBit2D (s : State) : Result := bitR8 2 .d s

/-- `BIT 2,E` (R282). -/
def execBit2E (s : State) : Result := bitR8 2 .e s

/-- `BIT 2,H` (R282). -/
def execBit2H (s : State) : Result := bitR8 2 .h s

/-- `BIT 2,L` (R282). -/
def execBit2L (s : State) : Result := bitR8 2 .l s

/-- `BIT 2,(HL)` (R282). -/
def execBit2AtHl (s : State) : Result := bitR8 2 .atHl s

/-- `BIT 2,A` (R282). -/
def execBit2A (s : State) : Result := bitR8 2 .a s

/-- `BIT 3,B` (R282). -/
def execBit3B (s : State) : Result := bitR8 3 .b s

/-- `BIT 3,C` (R282). -/
def execBit3C (s : State) : Result := bitR8 3 .c s

/-- `BIT 3,D` (R282). -/
def execBit3D (s : State) : Result := bitR8 3 .d s

/-- `BIT 3,E` (R282). -/
def execBit3E (s : State) : Result := bitR8 3 .e s

/-- `BIT 3,H` (R282). -/
def execBit3H (s : State) : Result := bitR8 3 .h s

/-- `BIT 3,L` (R282). -/
def execBit3L (s : State) : Result := bitR8 3 .l s

/-- `BIT 3,(HL)` (R282). -/
def execBit3AtHl (s : State) : Result := bitR8 3 .atHl s

/-- `BIT 3,A` (R282). -/
def execBit3A (s : State) : Result := bitR8 3 .a s

/-- `BIT 4,B` (R282). -/
def execBit4B (s : State) : Result := bitR8 4 .b s

/-- `BIT 4,C` (R282). -/
def execBit4C (s : State) : Result := bitR8 4 .c s

/-- `BIT 4,D` (R282). -/
def execBit4D (s : State) : Result := bitR8 4 .d s

/-- `BIT 4,E` (R282). -/
def execBit4E (s : State) : Result := bitR8 4 .e s

/-- `BIT 4,H` (R282). -/
def execBit4H (s : State) : Result := bitR8 4 .h s

/-- `BIT 4,L` (R282). -/
def execBit4L (s : State) : Result := bitR8 4 .l s

/-- `BIT 4,(HL)` (R282). -/
def execBit4AtHl (s : State) : Result := bitR8 4 .atHl s

/-- `BIT 4,A` (R282). -/
def execBit4A (s : State) : Result := bitR8 4 .a s

/-- `BIT 5,B` (R282). -/
def execBit5B (s : State) : Result := bitR8 5 .b s

/-- `BIT 5,C` (R282). -/
def execBit5C (s : State) : Result := bitR8 5 .c s

/-- `BIT 5,D` (R282). -/
def execBit5D (s : State) : Result := bitR8 5 .d s

/-- `BIT 5,E` (R282). -/
def execBit5E (s : State) : Result := bitR8 5 .e s

/-- `BIT 5,H` (R282). -/
def execBit5H (s : State) : Result := bitR8 5 .h s

/-- `BIT 5,L` (R282). -/
def execBit5L (s : State) : Result := bitR8 5 .l s

/-- `BIT 5,(HL)` (R282). -/
def execBit5AtHl (s : State) : Result := bitR8 5 .atHl s

/-- `BIT 5,A` (R282). -/
def execBit5A (s : State) : Result := bitR8 5 .a s

/-- `BIT 6,B` (R282). -/
def execBit6B (s : State) : Result := bitR8 6 .b s

/-- `BIT 6,C` (R282). -/
def execBit6C (s : State) : Result := bitR8 6 .c s

/-- `BIT 6,D` (R282). -/
def execBit6D (s : State) : Result := bitR8 6 .d s

/-- `BIT 6,E` (R282). -/
def execBit6E (s : State) : Result := bitR8 6 .e s

/-- `BIT 6,H` (R282). -/
def execBit6H (s : State) : Result := bitR8 6 .h s

/-- `BIT 6,L` (R282). -/
def execBit6L (s : State) : Result := bitR8 6 .l s

/-- `BIT 6,(HL)` (R282). -/
def execBit6AtHl (s : State) : Result := bitR8 6 .atHl s

/-- `BIT 6,A` (R282). -/
def execBit6A (s : State) : Result := bitR8 6 .a s

/-- `BIT 7,B` (R282). -/
def execBit7B (s : State) : Result := bitR8 7 .b s

/-- `BIT 7,C` (R282). -/
def execBit7C (s : State) : Result := bitR8 7 .c s

/-- `BIT 7,D` (R282). -/
def execBit7D (s : State) : Result := bitR8 7 .d s

/-- `BIT 7,E` (R282). -/
def execBit7E (s : State) : Result := bitR8 7 .e s

/-- `BIT 7,H` (R282). -/
def execBit7H (s : State) : Result := bitR8 7 .h s

/-- `BIT 7,L` (R282). -/
def execBit7L (s : State) : Result := bitR8 7 .l s

/-- `BIT 7,(HL)` (R282). -/
def execBit7AtHl (s : State) : Result := bitR8 7 .atHl s

/-- `BIT 7,A` (R282). -/
def execBit7A (s : State) : Result := bitR8 7 .a s

/-- `RES 0,B` (R283). -/
def execRes0B (s : State) : Result := resR8 0 .b s

/-- `RES 0,C` (R283). -/
def execRes0C (s : State) : Result := resR8 0 .c s

/-- `RES 0,D` (R283). -/
def execRes0D (s : State) : Result := resR8 0 .d s

/-- `RES 0,E` (R283). -/
def execRes0E (s : State) : Result := resR8 0 .e s

/-- `RES 0,H` (R283). -/
def execRes0H (s : State) : Result := resR8 0 .h s

/-- `RES 0,L` (R283). -/
def execRes0L (s : State) : Result := resR8 0 .l s

/-- `RES 0,(HL)` (R283). -/
def execRes0AtHl (s : State) : Result := resR8 0 .atHl s

/-- `RES 0,A` (R283). -/
def execRes0A (s : State) : Result := resR8 0 .a s

/-- `RES 1,B` (R283). -/
def execRes1B (s : State) : Result := resR8 1 .b s

/-- `RES 1,C` (R283). -/
def execRes1C (s : State) : Result := resR8 1 .c s

/-- `RES 1,D` (R283). -/
def execRes1D (s : State) : Result := resR8 1 .d s

/-- `RES 1,E` (R283). -/
def execRes1E (s : State) : Result := resR8 1 .e s

/-- `RES 1,H` (R283). -/
def execRes1H (s : State) : Result := resR8 1 .h s

/-- `RES 1,L` (R283). -/
def execRes1L (s : State) : Result := resR8 1 .l s

/-- `RES 1,(HL)` (R283). -/
def execRes1AtHl (s : State) : Result := resR8 1 .atHl s

/-- `RES 1,A` (R283). -/
def execRes1A (s : State) : Result := resR8 1 .a s

/-- `RES 2,B` (R283). -/
def execRes2B (s : State) : Result := resR8 2 .b s

/-- `RES 2,C` (R283). -/
def execRes2C (s : State) : Result := resR8 2 .c s

/-- `RES 2,D` (R283). -/
def execRes2D (s : State) : Result := resR8 2 .d s

/-- `RES 2,E` (R283). -/
def execRes2E (s : State) : Result := resR8 2 .e s

/-- `RES 2,H` (R283). -/
def execRes2H (s : State) : Result := resR8 2 .h s

/-- `RES 2,L` (R283). -/
def execRes2L (s : State) : Result := resR8 2 .l s

/-- `RES 2,(HL)` (R283). -/
def execRes2AtHl (s : State) : Result := resR8 2 .atHl s

/-- `RES 2,A` (R283). -/
def execRes2A (s : State) : Result := resR8 2 .a s

/-- `RES 3,B` (R283). -/
def execRes3B (s : State) : Result := resR8 3 .b s

/-- `RES 3,C` (R283). -/
def execRes3C (s : State) : Result := resR8 3 .c s

/-- `RES 3,D` (R283). -/
def execRes3D (s : State) : Result := resR8 3 .d s

/-- `RES 3,E` (R283). -/
def execRes3E (s : State) : Result := resR8 3 .e s

/-- `RES 3,H` (R283). -/
def execRes3H (s : State) : Result := resR8 3 .h s

/-- `RES 3,L` (R283). -/
def execRes3L (s : State) : Result := resR8 3 .l s

/-- `RES 3,(HL)` (R283). -/
def execRes3AtHl (s : State) : Result := resR8 3 .atHl s

/-- `RES 3,A` (R283). -/
def execRes3A (s : State) : Result := resR8 3 .a s

/-- `RES 4,B` (R283). -/
def execRes4B (s : State) : Result := resR8 4 .b s

/-- `RES 4,C` (R283). -/
def execRes4C (s : State) : Result := resR8 4 .c s

/-- `RES 4,D` (R283). -/
def execRes4D (s : State) : Result := resR8 4 .d s

/-- `RES 4,E` (R283). -/
def execRes4E (s : State) : Result := resR8 4 .e s

/-- `RES 4,H` (R283). -/
def execRes4H (s : State) : Result := resR8 4 .h s

/-- `RES 4,L` (R283). -/
def execRes4L (s : State) : Result := resR8 4 .l s

/-- `RES 4,(HL)` (R283). -/
def execRes4AtHl (s : State) : Result := resR8 4 .atHl s

/-- `RES 4,A` (R283). -/
def execRes4A (s : State) : Result := resR8 4 .a s

/-- `RES 5,B` (R283). -/
def execRes5B (s : State) : Result := resR8 5 .b s

/-- `RES 5,C` (R283). -/
def execRes5C (s : State) : Result := resR8 5 .c s

/-- `RES 5,D` (R283). -/
def execRes5D (s : State) : Result := resR8 5 .d s

/-- `RES 5,E` (R283). -/
def execRes5E (s : State) : Result := resR8 5 .e s

/-- `RES 5,H` (R283). -/
def execRes5H (s : State) : Result := resR8 5 .h s

/-- `RES 5,L` (R283). -/
def execRes5L (s : State) : Result := resR8 5 .l s

/-- `RES 5,(HL)` (R283). -/
def execRes5AtHl (s : State) : Result := resR8 5 .atHl s

/-- `RES 5,A` (R283). -/
def execRes5A (s : State) : Result := resR8 5 .a s

/-- `RES 6,B` (R283). -/
def execRes6B (s : State) : Result := resR8 6 .b s

/-- `RES 6,C` (R283). -/
def execRes6C (s : State) : Result := resR8 6 .c s

/-- `RES 6,D` (R283). -/
def execRes6D (s : State) : Result := resR8 6 .d s

/-- `RES 6,E` (R283). -/
def execRes6E (s : State) : Result := resR8 6 .e s

/-- `RES 6,H` (R283). -/
def execRes6H (s : State) : Result := resR8 6 .h s

/-- `RES 6,L` (R283). -/
def execRes6L (s : State) : Result := resR8 6 .l s

/-- `RES 6,(HL)` (R283). -/
def execRes6AtHl (s : State) : Result := resR8 6 .atHl s

/-- `RES 6,A` (R283). -/
def execRes6A (s : State) : Result := resR8 6 .a s

/-- `RES 7,B` (R283). -/
def execRes7B (s : State) : Result := resR8 7 .b s

/-- `RES 7,C` (R283). -/
def execRes7C (s : State) : Result := resR8 7 .c s

/-- `RES 7,D` (R283). -/
def execRes7D (s : State) : Result := resR8 7 .d s

/-- `RES 7,E` (R283). -/
def execRes7E (s : State) : Result := resR8 7 .e s

/-- `RES 7,H` (R283). -/
def execRes7H (s : State) : Result := resR8 7 .h s

/-- `RES 7,L` (R283). -/
def execRes7L (s : State) : Result := resR8 7 .l s

/-- `RES 7,(HL)` (R283). -/
def execRes7AtHl (s : State) : Result := resR8 7 .atHl s

/-- `RES 7,A` (R283). -/
def execRes7A (s : State) : Result := resR8 7 .a s

/-- `SET 0,B` (R284). -/
def execSet0B (s : State) : Result := setR8 0 .b s

/-- `SET 0,C` (R284). -/
def execSet0C (s : State) : Result := setR8 0 .c s

/-- `SET 0,D` (R284). -/
def execSet0D (s : State) : Result := setR8 0 .d s

/-- `SET 0,E` (R284). -/
def execSet0E (s : State) : Result := setR8 0 .e s

/-- `SET 0,H` (R284). -/
def execSet0H (s : State) : Result := setR8 0 .h s

/-- `SET 0,L` (R284). -/
def execSet0L (s : State) : Result := setR8 0 .l s

/-- `SET 0,(HL)` (R284). -/
def execSet0AtHl (s : State) : Result := setR8 0 .atHl s

/-- `SET 0,A` (R284). -/
def execSet0A (s : State) : Result := setR8 0 .a s

/-- `SET 1,B` (R284). -/
def execSet1B (s : State) : Result := setR8 1 .b s

/-- `SET 1,C` (R284). -/
def execSet1C (s : State) : Result := setR8 1 .c s

/-- `SET 1,D` (R284). -/
def execSet1D (s : State) : Result := setR8 1 .d s

/-- `SET 1,E` (R284). -/
def execSet1E (s : State) : Result := setR8 1 .e s

/-- `SET 1,H` (R284). -/
def execSet1H (s : State) : Result := setR8 1 .h s

/-- `SET 1,L` (R284). -/
def execSet1L (s : State) : Result := setR8 1 .l s

/-- `SET 1,(HL)` (R284). -/
def execSet1AtHl (s : State) : Result := setR8 1 .atHl s

/-- `SET 1,A` (R284). -/
def execSet1A (s : State) : Result := setR8 1 .a s

/-- `SET 2,B` (R284). -/
def execSet2B (s : State) : Result := setR8 2 .b s

/-- `SET 2,C` (R284). -/
def execSet2C (s : State) : Result := setR8 2 .c s

/-- `SET 2,D` (R284). -/
def execSet2D (s : State) : Result := setR8 2 .d s

/-- `SET 2,E` (R284). -/
def execSet2E (s : State) : Result := setR8 2 .e s

/-- `SET 2,H` (R284). -/
def execSet2H (s : State) : Result := setR8 2 .h s

/-- `SET 2,L` (R284). -/
def execSet2L (s : State) : Result := setR8 2 .l s

/-- `SET 2,(HL)` (R284). -/
def execSet2AtHl (s : State) : Result := setR8 2 .atHl s

/-- `SET 2,A` (R284). -/
def execSet2A (s : State) : Result := setR8 2 .a s

/-- `SET 3,B` (R284). -/
def execSet3B (s : State) : Result := setR8 3 .b s

/-- `SET 3,C` (R284). -/
def execSet3C (s : State) : Result := setR8 3 .c s

/-- `SET 3,D` (R284). -/
def execSet3D (s : State) : Result := setR8 3 .d s

/-- `SET 3,E` (R284). -/
def execSet3E (s : State) : Result := setR8 3 .e s

/-- `SET 3,H` (R284). -/
def execSet3H (s : State) : Result := setR8 3 .h s

/-- `SET 3,L` (R284). -/
def execSet3L (s : State) : Result := setR8 3 .l s

/-- `SET 3,(HL)` (R284). -/
def execSet3AtHl (s : State) : Result := setR8 3 .atHl s

/-- `SET 3,A` (R284). -/
def execSet3A (s : State) : Result := setR8 3 .a s

/-- `SET 4,B` (R284). -/
def execSet4B (s : State) : Result := setR8 4 .b s

/-- `SET 4,C` (R284). -/
def execSet4C (s : State) : Result := setR8 4 .c s

/-- `SET 4,D` (R284). -/
def execSet4D (s : State) : Result := setR8 4 .d s

/-- `SET 4,E` (R284). -/
def execSet4E (s : State) : Result := setR8 4 .e s

/-- `SET 4,H` (R284). -/
def execSet4H (s : State) : Result := setR8 4 .h s

/-- `SET 4,L` (R284). -/
def execSet4L (s : State) : Result := setR8 4 .l s

/-- `SET 4,(HL)` (R284). -/
def execSet4AtHl (s : State) : Result := setR8 4 .atHl s

/-- `SET 4,A` (R284). -/
def execSet4A (s : State) : Result := setR8 4 .a s

/-- `SET 5,B` (R284). -/
def execSet5B (s : State) : Result := setR8 5 .b s

/-- `SET 5,C` (R284). -/
def execSet5C (s : State) : Result := setR8 5 .c s

/-- `SET 5,D` (R284). -/
def execSet5D (s : State) : Result := setR8 5 .d s

/-- `SET 5,E` (R284). -/
def execSet5E (s : State) : Result := setR8 5 .e s

/-- `SET 5,H` (R284). -/
def execSet5H (s : State) : Result := setR8 5 .h s

/-- `SET 5,L` (R284). -/
def execSet5L (s : State) : Result := setR8 5 .l s

/-- `SET 5,(HL)` (R284). -/
def execSet5AtHl (s : State) : Result := setR8 5 .atHl s

/-- `SET 5,A` (R284). -/
def execSet5A (s : State) : Result := setR8 5 .a s

/-- `SET 6,B` (R284). -/
def execSet6B (s : State) : Result := setR8 6 .b s

/-- `SET 6,C` (R284). -/
def execSet6C (s : State) : Result := setR8 6 .c s

/-- `SET 6,D` (R284). -/
def execSet6D (s : State) : Result := setR8 6 .d s

/-- `SET 6,E` (R284). -/
def execSet6E (s : State) : Result := setR8 6 .e s

/-- `SET 6,H` (R284). -/
def execSet6H (s : State) : Result := setR8 6 .h s

/-- `SET 6,L` (R284). -/
def execSet6L (s : State) : Result := setR8 6 .l s

/-- `SET 6,(HL)` (R284). -/
def execSet6AtHl (s : State) : Result := setR8 6 .atHl s

/-- `SET 6,A` (R284). -/
def execSet6A (s : State) : Result := setR8 6 .a s

/-- `SET 7,B` (R284). -/
def execSet7B (s : State) : Result := setR8 7 .b s

/-- `SET 7,C` (R284). -/
def execSet7C (s : State) : Result := setR8 7 .c s

/-- `SET 7,D` (R284). -/
def execSet7D (s : State) : Result := setR8 7 .d s

/-- `SET 7,E` (R284). -/
def execSet7E (s : State) : Result := setR8 7 .e s

/-- `SET 7,H` (R284). -/
def execSet7H (s : State) : Result := setR8 7 .h s

/-- `SET 7,L` (R284). -/
def execSet7L (s : State) : Result := setR8 7 .l s

/-- `SET 7,(HL)` (R284). -/
def execSet7AtHl (s : State) : Result := setR8 7 .atHl s

/-- `SET 7,A` (R284). -/
def execSet7A (s : State) : Result := setR8 7 .a s

end Sys2Proof.Machine
end

