-- ==== Sys2Proof/Machine/Form.lean ====
section
/-! DEFINITION. The operand tables by field value, the CB map by fields (30_encoding.md R96-R101, R107), and the form of every
instruction: the map of 30_encoding.md R102-R105 and R107 by fields. -/

namespace Sys2Proof

/-- Table `r` by field value (30_encoding.md R96). -/
def R8.ofField (k : Fin 8) : R8 :=
  match k with
  | 0 => .b
  | 1 => .c
  | 2 => .d
  | 3 => .e
  | 4 => .h
  | 5 => .l
  | 6 => .atHl
  | 7 => .a

/-- Field value of table `r` (30_encoding.md R96). -/
def R8.field : R8 → Nat
  | .b => 0
  | .c => 1
  | .d => 2
  | .e => 3
  | .h => 4
  | .l => 5
  | .atHl => 6
  | .a => 7

/-- Field value of table `rp` (30_encoding.md R97). -/
def Rp.field : Rp → Nat
  | .bc => 0
  | .de => 1
  | .hl => 2
  | .sp => 3

/-- Field value of table `rp2` (30_encoding.md R98). -/
def Rp2.field : Rp2 → Nat
  | .bc => 0
  | .de => 1
  | .hl => 2
  | .af => 3

/-- Field value of table `cc` (30_encoding.md R99). -/
def Cond.field : Cond → Nat
  | .nz => 0
  | .z => 1
  | .nc => 2
  | .c => 3

/-- Field value of table `alu` (30_encoding.md R100). -/
def AluOp.field : AluOp → Nat
  | .add => 0
  | .adc => 1
  | .sub => 2
  | .sbc => 3
  | .and => 4
  | .xor => 5
  | .or => 6
  | .cp => 7

/-- Table `rot` by field value (30_encoding.md R101). -/
def RotOp.ofField (k : Fin 8) : RotOp :=
  match k with
  | 0 => .rlc
  | 1 => .rrc
  | 2 => .rl
  | 3 => .rr
  | 4 => .sla
  | 5 => .sra
  | 6 => .swap
  | 7 => .srl

/-- Field value of table `rot` (30_encoding.md R101). -/
def RotOp.field : RotOp → Nat
  | .rlc => 0
  | .rrc => 1
  | .rl => 2
  | .rr => 3
  | .sla => 4
  | .sra => 5
  | .swap => 6
  | .srl => 7

/-- The instruction that the second byte after the prefix `0xCB` selects, by its fields x, y, z (30_encoding.md R92, R107). -/
def cbForm (b2 : Byte) : CbForm :=
  let y : Fin 8 := Fin.ofNat 8 (b2.toNat / 8)
  let x : R8 := R8.ofField (Fin.ofNat 8 b2.toNat)
  match b2.toNat / 64 with
  | 0 => .rot (RotOp.ofField y) x
  | 1 => .bit y x
  | 2 => .res y x
  | _ => .set y x

/-- The form of an instruction. `PREFIX CB` with its second byte is the CB instruction that byte selects (47_system.md R328). -/
def Instr.form : Instr → Form
  | .nop => .nop
  | .ldBcD16 d16 => .ldRp16 .bc d16
  | .ldAtBcA => .ldIndA .bc
  | .incBc => .inc16 .bc
  | .incB => .inc8 .b
  | .decB => .dec8 .b
  | .ldBD8 d8 => .ldImm8 .b d8
  | .rlca => .rotA .rlca
  | .ldAtA16Sp a16 => .ldA16Sp a16
  | .addHlBc => .addHl .bc
  | .ldAAtBc => .ldAInd .bc
  | .decBc => .dec16 .bc
  | .incC => .inc8 .c
  | .decC => .dec8 .c
  | .ldCD8 d8 => .ldImm8 .c d8
  | .rrca => .rotA .rrca
  | .stop b2 => .stop b2
  | .ldDeD16 d16 => .ldRp16 .de d16
  | .ldAtDeA => .ldIndA .de
  | .incDe => .inc16 .de
  | .incD => .inc8 .d
  | .decD => .dec8 .d
  | .ldDD8 d8 => .ldImm8 .d d8
  | .rla => .rotA .rla
  | .jrE8 e8 => .jr e8
  | .addHlDe => .addHl .de
  | .ldAAtDe => .ldAInd .de
  | .decDe => .dec16 .de
  | .incE => .inc8 .e
  | .decE => .dec8 .e
  | .ldED8 d8 => .ldImm8 .e d8
  | .rra => .rotA .rra
  | .jrNzE8 e8 => .jrCc .nz e8
  | .ldHlD16 d16 => .ldRp16 .hl d16
  | .ldAtHlIncA => .ldHliA
  | .incHl => .inc16 .hl
  | .incH => .inc8 .h
  | .decH => .dec8 .h
  | .ldHD8 d8 => .ldImm8 .h d8
  | .daa => .daa
  | .jrZE8 e8 => .jrCc .z e8
  | .addHlHl => .addHl .hl
  | .ldAAtHlInc => .ldAHli
  | .decHl => .dec16 .hl
  | .incL => .inc8 .l
  | .decL => .dec8 .l
  | .ldLD8 d8 => .ldImm8 .l d8
  | .cpl => .cpl
  | .jrNcE8 e8 => .jrCc .nc e8
  | .ldSpD16 d16 => .ldRp16 .sp d16
  | .ldAtHlDecA => .ldHldA
  | .incSp => .inc16 .sp
  | .incAtHl => .inc8 .atHl
  | .decAtHl => .dec8 .atHl
  | .ldAtHlD8 d8 => .ldImm8 .atHl d8
  | .scf => .scf
  | .jrCE8 e8 => .jrCc .c e8
  | .addHlSp => .addHl .sp
  | .ldAAtHlDec => .ldAHld
  | .decSp => .dec16 .sp
  | .incA => .inc8 .a
  | .decA => .dec8 .a
  | .ldAD8 d8 => .ldImm8 .a d8
  | .ccf => .ccf
  | .ldBB => .ld8 .b .b
  | .ldBC => .ld8 .b .c
  | .ldBD => .ld8 .b .d
  | .ldBE => .ld8 .b .e
  | .ldBH => .ld8 .b .h
  | .ldBL => .ld8 .b .l
  | .ldBAtHl => .ld8 .b .atHl
  | .ldBA => .ld8 .b .a
  | .ldCB => .ld8 .c .b
  | .ldCC => .ld8 .c .c
  | .ldCD => .ld8 .c .d
  | .ldCE => .ld8 .c .e
  | .ldCH => .ld8 .c .h
  | .ldCL => .ld8 .c .l
  | .ldCAtHl => .ld8 .c .atHl
  | .ldCA => .ld8 .c .a
  | .ldDB => .ld8 .d .b
  | .ldDC => .ld8 .d .c
  | .ldDD => .ld8 .d .d
  | .ldDE => .ld8 .d .e
  | .ldDH => .ld8 .d .h
  | .ldDL => .ld8 .d .l
  | .ldDAtHl => .ld8 .d .atHl
  | .ldDA => .ld8 .d .a
  | .ldEB => .ld8 .e .b
  | .ldEC => .ld8 .e .c
  | .ldED => .ld8 .e .d
  | .ldEE => .ld8 .e .e
  | .ldEH => .ld8 .e .h
  | .ldEL => .ld8 .e .l
  | .ldEAtHl => .ld8 .e .atHl
  | .ldEA => .ld8 .e .a
  | .ldHB => .ld8 .h .b
  | .ldHC => .ld8 .h .c
  | .ldHD => .ld8 .h .d
  | .ldHE => .ld8 .h .e
  | .ldHH => .ld8 .h .h
  | .ldHL => .ld8 .h .l
  | .ldHAtHl => .ld8 .h .atHl
  | .ldHA => .ld8 .h .a
  | .ldLB => .ld8 .l .b
  | .ldLC => .ld8 .l .c
  | .ldLD => .ld8 .l .d
  | .ldLE => .ld8 .l .e
  | .ldLH => .ld8 .l .h
  | .ldLL => .ld8 .l .l
  | .ldLAtHl => .ld8 .l .atHl
  | .ldLA => .ld8 .l .a
  | .ldAtHlB => .ld8 .atHl .b
  | .ldAtHlC => .ld8 .atHl .c
  | .ldAtHlD => .ld8 .atHl .d
  | .ldAtHlE => .ld8 .atHl .e
  | .ldAtHlH => .ld8 .atHl .h
  | .ldAtHlL => .ld8 .atHl .l
  | .halt => .halt
  | .ldAtHlA => .ld8 .atHl .a
  | .ldAB => .ld8 .a .b
  | .ldAC => .ld8 .a .c
  | .ldAD => .ld8 .a .d
  | .ldAE => .ld8 .a .e
  | .ldAH => .ld8 .a .h
  | .ldAL => .ld8 .a .l
  | .ldAAtHl => .ld8 .a .atHl
  | .ldAA => .ld8 .a .a
  | .addAB => .alu .add .b
  | .addAC => .alu .add .c
  | .addAD => .alu .add .d
  | .addAE => .alu .add .e
  | .addAH => .alu .add .h
  | .addAL => .alu .add .l
  | .addAAtHl => .alu .add .atHl
  | .addAA => .alu .add .a
  | .adcAB => .alu .adc .b
  | .adcAC => .alu .adc .c
  | .adcAD => .alu .adc .d
  | .adcAE => .alu .adc .e
  | .adcAH => .alu .adc .h
  | .adcAL => .alu .adc .l
  | .adcAAtHl => .alu .adc .atHl
  | .adcAA => .alu .adc .a
  | .subAB => .alu .sub .b
  | .subAC => .alu .sub .c
  | .subAD => .alu .sub .d
  | .subAE => .alu .sub .e
  | .subAH => .alu .sub .h
  | .subAL => .alu .sub .l
  | .subAAtHl => .alu .sub .atHl
  | .subAA => .alu .sub .a
  | .sbcAB => .alu .sbc .b
  | .sbcAC => .alu .sbc .c
  | .sbcAD => .alu .sbc .d
  | .sbcAE => .alu .sbc .e
  | .sbcAH => .alu .sbc .h
  | .sbcAL => .alu .sbc .l
  | .sbcAAtHl => .alu .sbc .atHl
  | .sbcAA => .alu .sbc .a
  | .andAB => .alu .and .b
  | .andAC => .alu .and .c
  | .andAD => .alu .and .d
  | .andAE => .alu .and .e
  | .andAH => .alu .and .h
  | .andAL => .alu .and .l
  | .andAAtHl => .alu .and .atHl
  | .andAA => .alu .and .a
  | .xorAB => .alu .xor .b
  | .xorAC => .alu .xor .c
  | .xorAD => .alu .xor .d
  | .xorAE => .alu .xor .e
  | .xorAH => .alu .xor .h
  | .xorAL => .alu .xor .l
  | .xorAAtHl => .alu .xor .atHl
  | .xorAA => .alu .xor .a
  | .orAB => .alu .or .b
  | .orAC => .alu .or .c
  | .orAD => .alu .or .d
  | .orAE => .alu .or .e
  | .orAH => .alu .or .h
  | .orAL => .alu .or .l
  | .orAAtHl => .alu .or .atHl
  | .orAA => .alu .or .a
  | .cpAB => .alu .cp .b
  | .cpAC => .alu .cp .c
  | .cpAD => .alu .cp .d
  | .cpAE => .alu .cp .e
  | .cpAH => .alu .cp .h
  | .cpAL => .alu .cp .l
  | .cpAAtHl => .alu .cp .atHl
  | .cpAA => .alu .cp .a
  | .retNz => .retCc .nz
  | .popBc => .pop .bc
  | .jpNzA16 a16 => .jpCc .nz a16
  | .jpA16 a16 => .jp a16
  | .callNzA16 a16 => .callCc .nz a16
  | .pushBc => .push .bc
  | .addAD8 d8 => .aluImm .add d8
  | .rst00 => .rst 0
  | .retZ => .retCc .z
  | .ret => .ret
  | .jpZA16 a16 => .jpCc .z a16
  | .prefixCb b2 => .cb (cbForm b2)
  | .callZA16 a16 => .callCc .z a16
  | .callA16 a16 => .call a16
  | .adcAD8 d8 => .aluImm .adc d8
  | .rst08 => .rst 1
  | .retNc => .retCc .nc
  | .popDe => .pop .de
  | .jpNcA16 a16 => .jpCc .nc a16
  | .invalidD3 => .invalid 0xD3
  | .callNcA16 a16 => .callCc .nc a16
  | .pushDe => .push .de
  | .subAD8 d8 => .aluImm .sub d8
  | .rst10 => .rst 2
  | .retC => .retCc .c
  | .reti => .reti
  | .jpCA16 a16 => .jpCc .c a16
  | .invalidDB => .invalid 0xDB
  | .callCA16 a16 => .callCc .c a16
  | .invalidDD => .invalid 0xDD
  | .sbcAD8 d8 => .aluImm .sbc d8
  | .rst18 => .rst 3
  | .ldhAtA8A a8 => .ldhA8A a8
  | .popHl => .pop .hl
  | .ldhAtCA => .ldhCA
  | .invalidE3 => .invalid 0xE3
  | .invalidE4 => .invalid 0xE4
  | .pushHl => .push .hl
  | .andAD8 d8 => .aluImm .and d8
  | .rst20 => .rst 4
  | .addSpE8 e8 => .addSp e8
  | .jpHl => .jpHl
  | .ldAtA16A a16 => .ldA16A a16
  | .invalidEB => .invalid 0xEB
  | .invalidEC => .invalid 0xEC
  | .invalidED => .invalid 0xED
  | .xorAD8 d8 => .aluImm .xor d8
  | .rst28 => .rst 5
  | .ldhAAtA8 a8 => .ldhAA8 a8
  | .popAf => .pop .af
  | .ldhAAtC => .ldhAC
  | .di => .di
  | .invalidF4 => .invalid 0xF4
  | .pushAf => .push .af
  | .orAD8 d8 => .aluImm .or d8
  | .rst30 => .rst 6
  | .ldHlSpE8 e8 => .ldHlSpE8 e8
  | .ldSpHl => .ldSpHl
  | .ldAAtA16 a16 => .ldAA16 a16
  | .ei => .ei
  | .invalidFC => .invalid 0xFC
  | .invalidFD => .invalid 0xFD
  | .cpAD8 d8 => .aluImm .cp d8
  | .rst38 => .rst 7
  | .rlcB => .cb (.rot .rlc .b)
  | .rlcC => .cb (.rot .rlc .c)
  | .rlcD => .cb (.rot .rlc .d)
  | .rlcE => .cb (.rot .rlc .e)
  | .rlcH => .cb (.rot .rlc .h)
  | .rlcL => .cb (.rot .rlc .l)
  | .rlcAtHl => .cb (.rot .rlc .atHl)
  | .rlcA => .cb (.rot .rlc .a)
  | .rrcB => .cb (.rot .rrc .b)
  | .rrcC => .cb (.rot .rrc .c)
  | .rrcD => .cb (.rot .rrc .d)
  | .rrcE => .cb (.rot .rrc .e)
  | .rrcH => .cb (.rot .rrc .h)
  | .rrcL => .cb (.rot .rrc .l)
  | .rrcAtHl => .cb (.rot .rrc .atHl)
  | .rrcA => .cb (.rot .rrc .a)
  | .rlB => .cb (.rot .rl .b)
  | .rlC => .cb (.rot .rl .c)
  | .rlD => .cb (.rot .rl .d)
  | .rlE => .cb (.rot .rl .e)
  | .rlH => .cb (.rot .rl .h)
  | .rlL => .cb (.rot .rl .l)
  | .rlAtHl => .cb (.rot .rl .atHl)
  | .rlA => .cb (.rot .rl .a)
  | .rrB => .cb (.rot .rr .b)
  | .rrC => .cb (.rot .rr .c)
  | .rrD => .cb (.rot .rr .d)
  | .rrE => .cb (.rot .rr .e)
  | .rrH => .cb (.rot .rr .h)
  | .rrL => .cb (.rot .rr .l)
  | .rrAtHl => .cb (.rot .rr .atHl)
  | .rrA => .cb (.rot .rr .a)
  | .slaB => .cb (.rot .sla .b)
  | .slaC => .cb (.rot .sla .c)
  | .slaD => .cb (.rot .sla .d)
  | .slaE => .cb (.rot .sla .e)
  | .slaH => .cb (.rot .sla .h)
  | .slaL => .cb (.rot .sla .l)
  | .slaAtHl => .cb (.rot .sla .atHl)
  | .slaA => .cb (.rot .sla .a)
  | .sraB => .cb (.rot .sra .b)
  | .sraC => .cb (.rot .sra .c)
  | .sraD => .cb (.rot .sra .d)
  | .sraE => .cb (.rot .sra .e)
  | .sraH => .cb (.rot .sra .h)
  | .sraL => .cb (.rot .sra .l)
  | .sraAtHl => .cb (.rot .sra .atHl)
  | .sraA => .cb (.rot .sra .a)
  | .swapB => .cb (.rot .swap .b)
  | .swapC => .cb (.rot .swap .c)
  | .swapD => .cb (.rot .swap .d)
  | .swapE => .cb (.rot .swap .e)
  | .swapH => .cb (.rot .swap .h)
  | .swapL => .cb (.rot .swap .l)
  | .swapAtHl => .cb (.rot .swap .atHl)
  | .swapA => .cb (.rot .swap .a)
  | .srlB => .cb (.rot .srl .b)
  | .srlC => .cb (.rot .srl .c)
  | .srlD => .cb (.rot .srl .d)
  | .srlE => .cb (.rot .srl .e)
  | .srlH => .cb (.rot .srl .h)
  | .srlL => .cb (.rot .srl .l)
  | .srlAtHl => .cb (.rot .srl .atHl)
  | .srlA => .cb (.rot .srl .a)
  | .bit0B => .cb (.bit 0 .b)
  | .bit0C => .cb (.bit 0 .c)
  | .bit0D => .cb (.bit 0 .d)
  | .bit0E => .cb (.bit 0 .e)
  | .bit0H => .cb (.bit 0 .h)
  | .bit0L => .cb (.bit 0 .l)
  | .bit0AtHl => .cb (.bit 0 .atHl)
  | .bit0A => .cb (.bit 0 .a)
  | .bit1B => .cb (.bit 1 .b)
  | .bit1C => .cb (.bit 1 .c)
  | .bit1D => .cb (.bit 1 .d)
  | .bit1E => .cb (.bit 1 .e)
  | .bit1H => .cb (.bit 1 .h)
  | .bit1L => .cb (.bit 1 .l)
  | .bit1AtHl => .cb (.bit 1 .atHl)
  | .bit1A => .cb (.bit 1 .a)
  | .bit2B => .cb (.bit 2 .b)
  | .bit2C => .cb (.bit 2 .c)
  | .bit2D => .cb (.bit 2 .d)
  | .bit2E => .cb (.bit 2 .e)
  | .bit2H => .cb (.bit 2 .h)
  | .bit2L => .cb (.bit 2 .l)
  | .bit2AtHl => .cb (.bit 2 .atHl)
  | .bit2A => .cb (.bit 2 .a)
  | .bit3B => .cb (.bit 3 .b)
  | .bit3C => .cb (.bit 3 .c)
  | .bit3D => .cb (.bit 3 .d)
  | .bit3E => .cb (.bit 3 .e)
  | .bit3H => .cb (.bit 3 .h)
  | .bit3L => .cb (.bit 3 .l)
  | .bit3AtHl => .cb (.bit 3 .atHl)
  | .bit3A => .cb (.bit 3 .a)
  | .bit4B => .cb (.bit 4 .b)
  | .bit4C => .cb (.bit 4 .c)
  | .bit4D => .cb (.bit 4 .d)
  | .bit4E => .cb (.bit 4 .e)
  | .bit4H => .cb (.bit 4 .h)
  | .bit4L => .cb (.bit 4 .l)
  | .bit4AtHl => .cb (.bit 4 .atHl)
  | .bit4A => .cb (.bit 4 .a)
  | .bit5B => .cb (.bit 5 .b)
  | .bit5C => .cb (.bit 5 .c)
  | .bit5D => .cb (.bit 5 .d)
  | .bit5E => .cb (.bit 5 .e)
  | .bit5H => .cb (.bit 5 .h)
  | .bit5L => .cb (.bit 5 .l)
  | .bit5AtHl => .cb (.bit 5 .atHl)
  | .bit5A => .cb (.bit 5 .a)
  | .bit6B => .cb (.bit 6 .b)
  | .bit6C => .cb (.bit 6 .c)
  | .bit6D => .cb (.bit 6 .d)
  | .bit6E => .cb (.bit 6 .e)
  | .bit6H => .cb (.bit 6 .h)
  | .bit6L => .cb (.bit 6 .l)
  | .bit6AtHl => .cb (.bit 6 .atHl)
  | .bit6A => .cb (.bit 6 .a)
  | .bit7B => .cb (.bit 7 .b)
  | .bit7C => .cb (.bit 7 .c)
  | .bit7D => .cb (.bit 7 .d)
  | .bit7E => .cb (.bit 7 .e)
  | .bit7H => .cb (.bit 7 .h)
  | .bit7L => .cb (.bit 7 .l)
  | .bit7AtHl => .cb (.bit 7 .atHl)
  | .bit7A => .cb (.bit 7 .a)
  | .res0B => .cb (.res 0 .b)
  | .res0C => .cb (.res 0 .c)
  | .res0D => .cb (.res 0 .d)
  | .res0E => .cb (.res 0 .e)
  | .res0H => .cb (.res 0 .h)
  | .res0L => .cb (.res 0 .l)
  | .res0AtHl => .cb (.res 0 .atHl)
  | .res0A => .cb (.res 0 .a)
  | .res1B => .cb (.res 1 .b)
  | .res1C => .cb (.res 1 .c)
  | .res1D => .cb (.res 1 .d)
  | .res1E => .cb (.res 1 .e)
  | .res1H => .cb (.res 1 .h)
  | .res1L => .cb (.res 1 .l)
  | .res1AtHl => .cb (.res 1 .atHl)
  | .res1A => .cb (.res 1 .a)
  | .res2B => .cb (.res 2 .b)
  | .res2C => .cb (.res 2 .c)
  | .res2D => .cb (.res 2 .d)
  | .res2E => .cb (.res 2 .e)
  | .res2H => .cb (.res 2 .h)
  | .res2L => .cb (.res 2 .l)
  | .res2AtHl => .cb (.res 2 .atHl)
  | .res2A => .cb (.res 2 .a)
  | .res3B => .cb (.res 3 .b)
  | .res3C => .cb (.res 3 .c)
  | .res3D => .cb (.res 3 .d)
  | .res3E => .cb (.res 3 .e)
  | .res3H => .cb (.res 3 .h)
  | .res3L => .cb (.res 3 .l)
  | .res3AtHl => .cb (.res 3 .atHl)
  | .res3A => .cb (.res 3 .a)
  | .res4B => .cb (.res 4 .b)
  | .res4C => .cb (.res 4 .c)
  | .res4D => .cb (.res 4 .d)
  | .res4E => .cb (.res 4 .e)
  | .res4H => .cb (.res 4 .h)
  | .res4L => .cb (.res 4 .l)
  | .res4AtHl => .cb (.res 4 .atHl)
  | .res4A => .cb (.res 4 .a)
  | .res5B => .cb (.res 5 .b)
  | .res5C => .cb (.res 5 .c)
  | .res5D => .cb (.res 5 .d)
  | .res5E => .cb (.res 5 .e)
  | .res5H => .cb (.res 5 .h)
  | .res5L => .cb (.res 5 .l)
  | .res5AtHl => .cb (.res 5 .atHl)
  | .res5A => .cb (.res 5 .a)
  | .res6B => .cb (.res 6 .b)
  | .res6C => .cb (.res 6 .c)
  | .res6D => .cb (.res 6 .d)
  | .res6E => .cb (.res 6 .e)
  | .res6H => .cb (.res 6 .h)
  | .res6L => .cb (.res 6 .l)
  | .res6AtHl => .cb (.res 6 .atHl)
  | .res6A => .cb (.res 6 .a)
  | .res7B => .cb (.res 7 .b)
  | .res7C => .cb (.res 7 .c)
  | .res7D => .cb (.res 7 .d)
  | .res7E => .cb (.res 7 .e)
  | .res7H => .cb (.res 7 .h)
  | .res7L => .cb (.res 7 .l)
  | .res7AtHl => .cb (.res 7 .atHl)
  | .res7A => .cb (.res 7 .a)
  | .set0B => .cb (.set 0 .b)
  | .set0C => .cb (.set 0 .c)
  | .set0D => .cb (.set 0 .d)
  | .set0E => .cb (.set 0 .e)
  | .set0H => .cb (.set 0 .h)
  | .set0L => .cb (.set 0 .l)
  | .set0AtHl => .cb (.set 0 .atHl)
  | .set0A => .cb (.set 0 .a)
  | .set1B => .cb (.set 1 .b)
  | .set1C => .cb (.set 1 .c)
  | .set1D => .cb (.set 1 .d)
  | .set1E => .cb (.set 1 .e)
  | .set1H => .cb (.set 1 .h)
  | .set1L => .cb (.set 1 .l)
  | .set1AtHl => .cb (.set 1 .atHl)
  | .set1A => .cb (.set 1 .a)
  | .set2B => .cb (.set 2 .b)
  | .set2C => .cb (.set 2 .c)
  | .set2D => .cb (.set 2 .d)
  | .set2E => .cb (.set 2 .e)
  | .set2H => .cb (.set 2 .h)
  | .set2L => .cb (.set 2 .l)
  | .set2AtHl => .cb (.set 2 .atHl)
  | .set2A => .cb (.set 2 .a)
  | .set3B => .cb (.set 3 .b)
  | .set3C => .cb (.set 3 .c)
  | .set3D => .cb (.set 3 .d)
  | .set3E => .cb (.set 3 .e)
  | .set3H => .cb (.set 3 .h)
  | .set3L => .cb (.set 3 .l)
  | .set3AtHl => .cb (.set 3 .atHl)
  | .set3A => .cb (.set 3 .a)
  | .set4B => .cb (.set 4 .b)
  | .set4C => .cb (.set 4 .c)
  | .set4D => .cb (.set 4 .d)
  | .set4E => .cb (.set 4 .e)
  | .set4H => .cb (.set 4 .h)
  | .set4L => .cb (.set 4 .l)
  | .set4AtHl => .cb (.set 4 .atHl)
  | .set4A => .cb (.set 4 .a)
  | .set5B => .cb (.set 5 .b)
  | .set5C => .cb (.set 5 .c)
  | .set5D => .cb (.set 5 .d)
  | .set5E => .cb (.set 5 .e)
  | .set5H => .cb (.set 5 .h)
  | .set5L => .cb (.set 5 .l)
  | .set5AtHl => .cb (.set 5 .atHl)
  | .set5A => .cb (.set 5 .a)
  | .set6B => .cb (.set 6 .b)
  | .set6C => .cb (.set 6 .c)
  | .set6D => .cb (.set 6 .d)
  | .set6E => .cb (.set 6 .e)
  | .set6H => .cb (.set 6 .h)
  | .set6L => .cb (.set 6 .l)
  | .set6AtHl => .cb (.set 6 .atHl)
  | .set6A => .cb (.set 6 .a)
  | .set7B => .cb (.set 7 .b)
  | .set7C => .cb (.set 7 .c)
  | .set7D => .cb (.set 7 .d)
  | .set7E => .cb (.set 7 .e)
  | .set7H => .cb (.set 7 .h)
  | .set7L => .cb (.set 7 .l)
  | .set7AtHl => .cb (.set 7 .atHl)
  | .set7A => .cb (.set 7 .a)

end Sys2Proof
end

