-- ==== Sys2Proof/Machine/System.lean ====
section
/-! DEFINITION. The system instructions, the prefix byte and the invalid opcodes (47_system.md R321-R329). -/

namespace Sys2Proof.Machine

/-- Nothing but `PC <- next` (R321). -/
def nop (s : State) : Result := .next (s.advance 1)

/-- `halted <- 1`, then the HALT loop with the `ime_pending` of the step's start as `p` (R322, R323). -/
def halt (s : State) : Result :=
  .next (haltLoop s.imePending Config.haltFuseCycles 0 { s.advance 1 with halted := true })

/-- `stopped <- 1` (R324); the second byte is ignored (30_encoding.md R111). -/
def stop (_b2 : Byte) (s : State) : Result := .next { s.advance 2 with stopped := true }

/-- `ime <- 0; ime_pending <- 0` (R325). -/
def disableInterrupts (s : State) : Result := .next { s.advance 1 with ime := false, imePending := false }

/-- `ime_pending <- 1` (R327). -/
def enableInterrupts (s : State) : Result := .next { s.advance 1 with imePending := true }

/-- `raise InvalidOpcode(addr, op)` (R329, 60_exceptions.md R380): the terminal fault, nothing changed. -/
def invalid (op : Byte) (s : State) : Result := .fault (.invalidOpcode s.pc op)

/-- `NOP` (R321). -/
def execNop (s : State) : Result := nop s

/-- `STOP` (R324). -/
def execStop (b2 : Byte) (s : State) : Result := stop b2 s

/-- `HALT` (R322). -/
def execHalt (s : State) : Result := halt s

/-- `PREFIX CB` (R328). -/
def execPrefixCb (b2 : Byte) (s : State) : Result := cbMeaning (cbForm b2) s

/-- `INVALID_D3` (R329). -/
def execInvalidD3 (s : State) : Result := invalid 0xD3 s

/-- `INVALID_DB` (R329). -/
def execInvalidDB (s : State) : Result := invalid 0xDB s

/-- `INVALID_DD` (R329). -/
def execInvalidDD (s : State) : Result := invalid 0xDD s

/-- `INVALID_E3` (R329). -/
def execInvalidE3 (s : State) : Result := invalid 0xE3 s

/-- `INVALID_E4` (R329). -/
def execInvalidE4 (s : State) : Result := invalid 0xE4 s

/-- `INVALID_EB` (R329). -/
def execInvalidEB (s : State) : Result := invalid 0xEB s

/-- `INVALID_EC` (R329). -/
def execInvalidEC (s : State) : Result := invalid 0xEC s

/-- `INVALID_ED` (R329). -/
def execInvalidED (s : State) : Result := invalid 0xED s

/-- `DI` (R325). -/
def execDi (s : State) : Result := disableInterrupts s

/-- `INVALID_F4` (R329). -/
def execInvalidF4 (s : State) : Result := invalid 0xF4 s

/-- `EI` (R327). -/
def execEi (s : State) : Result := enableInterrupts s

/-- `INVALID_FC` (R329). -/
def execInvalidFC (s : State) : Result := invalid 0xFC s

/-- `INVALID_FD` (R329). -/
def execInvalidFD (s : State) : Result := invalid 0xFD s

end Sys2Proof.Machine
end

