-- ==== Sys2Proof/Decode.lean ====
section
/-! DEFINITION. The decoder, written from the byte-by-byte maps of 30_encoding.md R106 and R107, total on any bytes; and after it the
encoder, written from the maps by fields of R102-R105 and R107. -/

namespace Sys2Proof

/-- One row of a map of 30_encoding.md R106 or R107: the sixteen instructions whose opcode has that high nibble. -/
structure Row16 where
  x0 : Instr
  x1 : Instr
  x2 : Instr
  x3 : Instr
  x4 : Instr
  x5 : Instr
  x6 : Instr
  x7 : Instr
  x8 : Instr
  x9 : Instr
  xA : Instr
  xB : Instr
  xC : Instr
  xD : Instr
  xE : Instr
  xF : Instr

/-- The entry of a row in the column of the low nibble. -/
def Row16.pick (r : Row16) : Nat → Instr
  | 0 => r.x0
  | 1 => r.x1
  | 2 => r.x2
  | 3 => r.x3
  | 4 => r.x4
  | 5 => r.x5
  | 6 => r.x6
  | 7 => r.x7
  | 8 => r.x8
  | 9 => r.x9
  | 10 => r.xA
  | 11 => r.xB
  | 12 => r.xC
  | 13 => r.xD
  | 14 => r.xE
  | _ => r.xF

/-- Row 0x of the base map (30_encoding.md R106). -/
def baseRow0 (n : Byte) (w : Word) : Row16 :=
  ⟨.nop, .ldBcD16 w, .ldAtBcA, .incBc,
   .incB, .decB, .ldBD8 n, .rlca,
   .ldAtA16Sp w, .addHlBc, .ldAAtBc, .decBc,
   .incC, .decC, .ldCD8 n, .rrca⟩

/-- Row 1x of the base map (30_encoding.md R106). -/
def baseRow1 (n : Byte) (w : Word) : Row16 :=
  ⟨.stop n, .ldDeD16 w, .ldAtDeA, .incDe,
   .incD, .decD, .ldDD8 n, .rla,
   .jrE8 n, .addHlDe, .ldAAtDe, .decDe,
   .incE, .decE, .ldED8 n, .rra⟩

/-- Row 2x of the base map (30_encoding.md R106). -/
def baseRow2 (n : Byte) (w : Word) : Row16 :=
  ⟨.jrNzE8 n, .ldHlD16 w, .ldAtHlIncA, .incHl,
   .incH, .decH, .ldHD8 n, .daa,
   .jrZE8 n, .addHlHl, .ldAAtHlInc, .decHl,
   .incL, .decL, .ldLD8 n, .cpl⟩

/-- Row 3x of the base map (30_encoding.md R106). -/
def baseRow3 (n : Byte) (w : Word) : Row16 :=
  ⟨.jrNcE8 n, .ldSpD16 w, .ldAtHlDecA, .incSp,
   .incAtHl, .decAtHl, .ldAtHlD8 n, .scf,
   .jrCE8 n, .addHlSp, .ldAAtHlDec, .decSp,
   .incA, .decA, .ldAD8 n, .ccf⟩

/-- Row 4x of the base map (30_encoding.md R106). -/
def baseRow4 (_ : Byte) (_ : Word) : Row16 :=
  ⟨.ldBB, .ldBC, .ldBD, .ldBE,
   .ldBH, .ldBL, .ldBAtHl, .ldBA,
   .ldCB, .ldCC, .ldCD, .ldCE,
   .ldCH, .ldCL, .ldCAtHl, .ldCA⟩

/-- Row 5x of the base map (30_encoding.md R106). -/
def baseRow5 (_ : Byte) (_ : Word) : Row16 :=
  ⟨.ldDB, .ldDC, .ldDD, .ldDE,
   .ldDH, .ldDL, .ldDAtHl, .ldDA,
   .ldEB, .ldEC, .ldED, .ldEE,
   .ldEH, .ldEL, .ldEAtHl, .ldEA⟩

/-- Row 6x of the base map (30_encoding.md R106). -/
def baseRow6 (_ : Byte) (_ : Word) : Row16 :=
  ⟨.ldHB, .ldHC, .ldHD, .ldHE,
   .ldHH, .ldHL, .ldHAtHl, .ldHA,
   .ldLB, .ldLC, .ldLD, .ldLE,
   .ldLH, .ldLL, .ldLAtHl, .ldLA⟩

/-- Row 7x of the base map (30_encoding.md R106). -/
def baseRow7 (_ : Byte) (_ : Word) : Row16 :=
  ⟨.ldAtHlB, .ldAtHlC, .ldAtHlD, .ldAtHlE,
   .ldAtHlH, .ldAtHlL, .halt, .ldAtHlA,
   .ldAB, .ldAC, .ldAD, .ldAE,
   .ldAH, .ldAL, .ldAAtHl, .ldAA⟩

/-- Row 8x of the base map (30_encoding.md R106). -/
def baseRow8 (_ : Byte) (_ : Word) : Row16 :=
  ⟨.addAB, .addAC, .addAD, .addAE,
   .addAH, .addAL, .addAAtHl, .addAA,
   .adcAB, .adcAC, .adcAD, .adcAE,
   .adcAH, .adcAL, .adcAAtHl, .adcAA⟩

/-- Row 9x of the base map (30_encoding.md R106). -/
def baseRow9 (_ : Byte) (_ : Word) : Row16 :=
  ⟨.subAB, .subAC, .subAD, .subAE,
   .subAH, .subAL, .subAAtHl, .subAA,
   .sbcAB, .sbcAC, .sbcAD, .sbcAE,
   .sbcAH, .sbcAL, .sbcAAtHl, .sbcAA⟩

/-- Row Ax of the base map (30_encoding.md R106). -/
def baseRowA (_ : Byte) (_ : Word) : Row16 :=
  ⟨.andAB, .andAC, .andAD, .andAE,
   .andAH, .andAL, .andAAtHl, .andAA,
   .xorAB, .xorAC, .xorAD, .xorAE,
   .xorAH, .xorAL, .xorAAtHl, .xorAA⟩

/-- Row Bx of the base map (30_encoding.md R106). -/
def baseRowB (_ : Byte) (_ : Word) : Row16 :=
  ⟨.orAB, .orAC, .orAD, .orAE,
   .orAH, .orAL, .orAAtHl, .orAA,
   .cpAB, .cpAC, .cpAD, .cpAE,
   .cpAH, .cpAL, .cpAAtHl, .cpAA⟩

/-- Row Cx of the base map (30_encoding.md R106). -/
def baseRowC (n : Byte) (w : Word) : Row16 :=
  ⟨.retNz, .popBc, .jpNzA16 w, .jpA16 w,
   .callNzA16 w, .pushBc, .addAD8 n, .rst00,
   .retZ, .ret, .jpZA16 w, .prefixCb n,
   .callZA16 w, .callA16 w, .adcAD8 n, .rst08⟩

/-- Row Dx of the base map (30_encoding.md R106). -/
def baseRowD (n : Byte) (w : Word) : Row16 :=
  ⟨.retNc, .popDe, .jpNcA16 w, .invalidD3,
   .callNcA16 w, .pushDe, .subAD8 n, .rst10,
   .retC, .reti, .jpCA16 w, .invalidDB,
   .callCA16 w, .invalidDD, .sbcAD8 n, .rst18⟩

/-- Row Ex of the base map (30_encoding.md R106). -/
def baseRowE (n : Byte) (w : Word) : Row16 :=
  ⟨.ldhAtA8A n, .popHl, .ldhAtCA, .invalidE3,
   .invalidE4, .pushHl, .andAD8 n, .rst20,
   .addSpE8 n, .jpHl, .ldAtA16A w, .invalidEB,
   .invalidEC, .invalidED, .xorAD8 n, .rst28⟩

/-- Row Fx of the base map (30_encoding.md R106). -/
def baseRowF (n : Byte) (w : Word) : Row16 :=
  ⟨.ldhAAtA8 n, .popAf, .ldhAAtC, .di,
   .invalidF4, .pushAf, .orAD8 n, .rst30,
   .ldHlSpE8 n, .ldSpHl, .ldAAtA16 w, .ei,
   .invalidFC, .invalidFD, .cpAD8 n, .rst38⟩

/-- Row 0x of the CB map (30_encoding.md R107). -/
def cbRow0 : Row16 :=
  ⟨.rlcB, .rlcC, .rlcD, .rlcE, .rlcH, .rlcL, .rlcAtHl, .rlcA,
   .rrcB, .rrcC, .rrcD, .rrcE, .rrcH, .rrcL, .rrcAtHl, .rrcA⟩

/-- Row 1x of the CB map (30_encoding.md R107). -/
def cbRow1 : Row16 :=
  ⟨.rlB, .rlC, .rlD, .rlE, .rlH, .rlL, .rlAtHl, .rlA,
   .rrB, .rrC, .rrD, .rrE, .rrH, .rrL, .rrAtHl, .rrA⟩

/-- Row 2x of the CB map (30_encoding.md R107). -/
def cbRow2 : Row16 :=
  ⟨.slaB, .slaC, .slaD, .slaE, .slaH, .slaL, .slaAtHl, .slaA,
   .sraB, .sraC, .sraD, .sraE, .sraH, .sraL, .sraAtHl, .sraA⟩

/-- Row 3x of the CB map (30_encoding.md R107). -/
def cbRow3 : Row16 :=
  ⟨.swapB, .swapC, .swapD, .swapE, .swapH, .swapL, .swapAtHl, .swapA,
   .srlB, .srlC, .srlD, .srlE, .srlH, .srlL, .srlAtHl, .srlA⟩

/-- Row 4x of the CB map (30_encoding.md R107). -/
def cbRow4 : Row16 :=
  ⟨.bit0B, .bit0C, .bit0D, .bit0E, .bit0H, .bit0L, .bit0AtHl, .bit0A,
   .bit1B, .bit1C, .bit1D, .bit1E, .bit1H, .bit1L, .bit1AtHl, .bit1A⟩

/-- Row 5x of the CB map (30_encoding.md R107). -/
def cbRow5 : Row16 :=
  ⟨.bit2B, .bit2C, .bit2D, .bit2E, .bit2H, .bit2L, .bit2AtHl, .bit2A,
   .bit3B, .bit3C, .bit3D, .bit3E, .bit3H, .bit3L, .bit3AtHl, .bit3A⟩

/-- Row 6x of the CB map (30_encoding.md R107). -/
def cbRow6 : Row16 :=
  ⟨.bit4B, .bit4C, .bit4D, .bit4E, .bit4H, .bit4L, .bit4AtHl, .bit4A,
   .bit5B, .bit5C, .bit5D, .bit5E, .bit5H, .bit5L, .bit5AtHl, .bit5A⟩

/-- Row 7x of the CB map (30_encoding.md R107). -/
def cbRow7 : Row16 :=
  ⟨.bit6B, .bit6C, .bit6D, .bit6E, .bit6H, .bit6L, .bit6AtHl, .bit6A,
   .bit7B, .bit7C, .bit7D, .bit7E, .bit7H, .bit7L, .bit7AtHl, .bit7A⟩

/-- Row 8x of the CB map (30_encoding.md R107). -/
def cbRow8 : Row16 :=
  ⟨.res0B, .res0C, .res0D, .res0E, .res0H, .res0L, .res0AtHl, .res0A,
   .res1B, .res1C, .res1D, .res1E, .res1H, .res1L, .res1AtHl, .res1A⟩

/-- Row 9x of the CB map (30_encoding.md R107). -/
def cbRow9 : Row16 :=
  ⟨.res2B, .res2C, .res2D, .res2E, .res2H, .res2L, .res2AtHl, .res2A,
   .res3B, .res3C, .res3D, .res3E, .res3H, .res3L, .res3AtHl, .res3A⟩

/-- Row Ax of the CB map (30_encoding.md R107). -/
def cbRowA : Row16 :=
  ⟨.res4B, .res4C, .res4D, .res4E, .res4H, .res4L, .res4AtHl, .res4A,
   .res5B, .res5C, .res5D, .res5E, .res5H, .res5L, .res5AtHl, .res5A⟩

/-- Row Bx of the CB map (30_encoding.md R107). -/
def cbRowB : Row16 :=
  ⟨.res6B, .res6C, .res6D, .res6E, .res6H, .res6L, .res6AtHl, .res6A,
   .res7B, .res7C, .res7D, .res7E, .res7H, .res7L, .res7AtHl, .res7A⟩

/-- Row Cx of the CB map (30_encoding.md R107). -/
def cbRowC : Row16 :=
  ⟨.set0B, .set0C, .set0D, .set0E, .set0H, .set0L, .set0AtHl, .set0A,
   .set1B, .set1C, .set1D, .set1E, .set1H, .set1L, .set1AtHl, .set1A⟩

/-- Row Dx of the CB map (30_encoding.md R107). -/
def cbRowD : Row16 :=
  ⟨.set2B, .set2C, .set2D, .set2E, .set2H, .set2L, .set2AtHl, .set2A,
   .set3B, .set3C, .set3D, .set3E, .set3H, .set3L, .set3AtHl, .set3A⟩

/-- Row Ex of the CB map (30_encoding.md R107). -/
def cbRowE : Row16 :=
  ⟨.set4B, .set4C, .set4D, .set4E, .set4H, .set4L, .set4AtHl, .set4A,
   .set5B, .set5C, .set5D, .set5E, .set5H, .set5L, .set5AtHl, .set5A⟩

/-- Row Fx of the CB map (30_encoding.md R107). -/
def cbRowF : Row16 :=
  ⟨.set6B, .set6C, .set6D, .set6E, .set6H, .set6L, .set6AtHl, .set6A,
   .set7B, .set7C, .set7D, .set7E, .set7H, .set7L, .set7AtHl, .set7A⟩

/-- The base map: row = high nibble (30_encoding.md R106). -/
def baseRow (n : Byte) (w : Word) : Nat → Row16
  | 0 => baseRow0 n w
  | 1 => baseRow1 n w
  | 2 => baseRow2 n w
  | 3 => baseRow3 n w
  | 4 => baseRow4 n w
  | 5 => baseRow5 n w
  | 6 => baseRow6 n w
  | 7 => baseRow7 n w
  | 8 => baseRow8 n w
  | 9 => baseRow9 n w
  | 10 => baseRowA n w
  | 11 => baseRowB n w
  | 12 => baseRowC n w
  | 13 => baseRowD n w
  | 14 => baseRowE n w
  | _ => baseRowF n w

/-- The CB map: row = high nibble of the second byte (30_encoding.md R107). -/
def cbRow : Nat → Row16
  | 0 => cbRow0
  | 1 => cbRow1
  | 2 => cbRow2
  | 3 => cbRow3
  | 4 => cbRow4
  | 5 => cbRow5
  | 6 => cbRow6
  | 7 => cbRow7
  | 8 => cbRow8
  | 9 => cbRow9
  | 10 => cbRowA
  | 11 => cbRowB
  | 12 => cbRowC
  | 13 => cbRowD
  | 14 => cbRowE
  | _ => cbRowF

/-- The base map (30_encoding.md R106), with operand byte `n` and operand word `w`; its entry at 0xCB is the prefix row, which
`decode` does not use (R110). -/
def decodeBase (op n : Byte) (w : Word) : Instr := (baseRow n w (op.toNat / 16)).pick (op.toNat % 16)

/-- The CB map (30_encoding.md R107). -/
def decodeCb (b2 : Byte) : Instr := (cbRow (b2.toNat / 16)).pick (b2.toNat % 16)

/-- The opcodes of length 3 (30_encoding.md R93). -/
def opcodes3 : List Byte :=
  [0x01, 0x11, 0x21, 0x31, 0x08, 0xC2, 0xC3, 0xC4, 0xCA, 0xCC, 0xCD, 0xD2, 0xD4, 0xDA, 0xDC, 0xEA, 0xFA]

/-- The opcodes of length 2, without the prefix (30_encoding.md R93). -/
def opcodes2 : List Byte :=
  [0x06, 0x0E, 0x16, 0x1E, 0x26, 0x2E, 0x36, 0x3E, 0x10, 0x18, 0x20, 0x28, 0x30, 0x38] ++
  [0xC6, 0xCE, 0xD6, 0xDE, 0xE6, 0xEE, 0xF6, 0xFE, 0xE0, 0xE8, 0xF0, 0xF8]

/-- The length of an instruction by its first byte (30_encoding.md R93). -/
def opLength (op : Byte) : Nat :=
  if op = 0xCB then 2 else if opcodes3.contains op then 3 else if opcodes2.contains op then 2 else 1

/-- Why no instruction can be read from a list of bytes. -/
inductive DecodeError where
  /-- There is no byte. -/
  | empty
  /-- The first byte calls for `need` bytes and there are fewer. -/
  | truncated (need : Nat)
deriving DecidableEq, Repr

/-- The decoder (30_encoding.md R116): the instruction at the head of a list of bytes, and the bytes after it. An invalid opcode is an
instruction of class INVALID, not an error (R108). -/
def decode : List Byte → Except DecodeError (Instr × List Byte)
  | [] => .error .empty
  | op :: rest =>
    if op = 0xCB then
      match rest with
      | b2 :: tail => .ok (decodeCb b2, tail)
      | [] => .error (.truncated 2)
    else if opLength op = 3 then
      match rest with
      | lo :: hi :: tail => .ok (decodeBase op 0 (pairWord hi lo), tail)
      | _ => .error (.truncated 3)
    else if opLength op = 2 then
      match rest with
      | n :: tail => .ok (decodeBase op n 0, tail)
      | [] => .error (.truncated 2)
    else .ok (decodeBase op 0 0, rest)

/-- An opcode byte by its fields x, y, z (30_encoding.md R92). -/
def opByte (x y z : Nat) : Byte := BitVec.ofNat 8 (64 * x + 8 * y + z)

/-- The second byte of a CB instruction by its fields (30_encoding.md R107). -/
def encodeCbForm : CbForm → Byte
  | .rot op x => opByte 0 op.field x.field
  | .bit n x => opByte 1 n.val x.field
  | .res n x => opByte 2 n.val x.field
  | .set n x => opByte 3 n.val x.field

/-- The bytes of an instruction by its form, from the maps by fields (30_encoding.md R90, R94, R95, R102-R105, R107). -/
def encodeForm : Form → List Byte
  | .nop => [opByte 0 0 0]
  | .ldA16Sp a16 => [opByte 0 1 0, loByte a16, hiByte a16]
  | .stop b2 => [opByte 0 2 0, b2]
  | .jr e8 => [opByte 0 3 0, e8]
  | .jrCc cc e8 => [opByte 0 (4 + cc.field) 0, e8]
  | .ldRp16 rr d16 => [opByte 0 (2 * rr.field) 1, loByte d16, hiByte d16]
  | .addHl rr => [opByte 0 (2 * rr.field + 1) 1]
  | .ldIndA .bc => [opByte 0 0 2]
  | .ldIndA .de => [opByte 0 2 2]
  | .ldHliA => [opByte 0 4 2]
  | .ldHldA => [opByte 0 6 2]
  | .ldAInd .bc => [opByte 0 1 2]
  | .ldAInd .de => [opByte 0 3 2]
  | .ldAHli => [opByte 0 5 2]
  | .ldAHld => [opByte 0 7 2]
  | .inc16 rr => [opByte 0 (2 * rr.field) 3]
  | .dec16 rr => [opByte 0 (2 * rr.field + 1) 3]
  | .inc8 x => [opByte 0 x.field 4]
  | .dec8 x => [opByte 0 x.field 5]
  | .ldImm8 x d8 => [opByte 0 x.field 6, d8]
  | .rotA .rlca => [opByte 0 0 7]
  | .rotA .rrca => [opByte 0 1 7]
  | .rotA .rla => [opByte 0 2 7]
  | .rotA .rra => [opByte 0 3 7]
  | .daa => [opByte 0 4 7]
  | .cpl => [opByte 0 5 7]
  | .scf => [opByte 0 6 7]
  | .ccf => [opByte 0 7 7]
  | .ld8 dst src => [opByte 1 dst.field src.field]
  | .halt => [opByte 1 6 6]
  | .alu op x => [opByte 2 op.field x.field]
  | .retCc cc => [opByte 3 cc.field 0]
  | .ldhA8A a8 => [opByte 3 4 0, a8]
  | .addSp e8 => [opByte 3 5 0, e8]
  | .ldhAA8 a8 => [opByte 3 6 0, a8]
  | .ldHlSpE8 e8 => [opByte 3 7 0, e8]
  | .pop rr => [opByte 3 (2 * rr.field) 1]
  | .ret => [opByte 3 1 1]
  | .reti => [opByte 3 3 1]
  | .jpHl => [opByte 3 5 1]
  | .ldSpHl => [opByte 3 7 1]
  | .jpCc cc a16 => [opByte 3 cc.field 2, loByte a16, hiByte a16]
  | .ldhCA => [opByte 3 4 2]
  | .ldA16A a16 => [opByte 3 5 2, loByte a16, hiByte a16]
  | .ldhAC => [opByte 3 6 2]
  | .ldAA16 a16 => [opByte 3 7 2, loByte a16, hiByte a16]
  | .jp a16 => [opByte 3 0 3, loByte a16, hiByte a16]
  | .cb op => [opByte 3 1 3, encodeCbForm op]
  | .di => [opByte 3 6 3]
  | .ei => [opByte 3 7 3]
  | .callCc cc a16 => [opByte 3 cc.field 4, loByte a16, hiByte a16]
  | .push rr => [opByte 3 (2 * rr.field) 5]
  | .call a16 => [opByte 3 1 5, loByte a16, hiByte a16]
  | .aluImm op d8 => [opByte 3 op.field 6, d8]
  | .rst y => [opByte 3 y.val 7]
  | .invalid op => [op]

/-- The bytes of an instruction. -/
def encode (i : Instr) : List Byte := encodeForm i.form

/-- The first three bytes of an instruction whose bits spec/opcode_table.json numbers as `w` over `nbits` bits. A row of the CB map has
16 bits with the prefix `0xCB` in bits 15..8 and the second byte in bits 7..0 (INDEX.md, "How to read opcode_table.json"; log 2); in every
other word the first byte is bits 7..0 and later bytes count on from it. -/
def tableBytes (nbits w : Nat) : List Byte :=
  if nbits = 16 ∧ w / 256 = 0xCB then [0xCB, BitVec.ofNat 8 w, 0]
  else [BitVec.ofNat 8 w, BitVec.ofNat 8 (w / 256), BitVec.ofNat 8 (w / 65536)]

/-- The instruction the decoder reads from an instruction word numbered as spec/opcode_table.json numbers it. -/
def decodeTableWord (nbits w : Nat) : Option Instr :=
  match decode (tableBytes nbits w) with
  | .ok (i, _) => some i
  | .error _ => none

end Sys2Proof
end

