-- ==== Sys2Proof/Machine/Record.lean ====
section
/-! DEFINITION. The decoder's output record (30_encoding.md R116): class, operands with their kinds, length, successor kind, static
targets, flag effects and flags read, and the cycle counts of 70_reset_and_hazards.md R440, each a function of the form. -/

namespace Sys2Proof

/-- The 75 mnemonic classes, in the spec's spelling (30_encoding.md R122). -/
inductive Cls where
  | NOP | LD_r_r | LD_r_d8 | LD_r_HL | LD_HL_r | LD_HL_d8 | LD_A_BC | LD_A_DE
  | LD_BC_A | LD_DE_A | LD_A_a16 | LD_a16_A | LDH_A_C | LDH_C_A | LDH_A_a8 | LDH_a8_A
  | LD_A_HLI | LD_A_HLD | LD_HLI_A | LD_HLD_A | LD_rr_d16 | LD_a16_SP | LD_SP_HL | LD_HL_SP_e8
  | PUSH | POP | ADD | ADC | SUB | SBC | AND | XOR
  | OR | CP | INC_r | DEC_r | DAA | CPL | SCF | CCF
  | ADD_HL_rr | ADD_SP_e8 | INC_rr | DEC_rr | RLCA | RRCA | RLA | RRA
  | RLC | RRC | RL | RR | SLA | SRA | SWAP | SRL
  | BIT | RES | SET | JP | JP_cc | JP_HL | JR | JR_cc
  | CALL | CALL_cc | RET | RET_cc | RETI | RST | HALT | STOP
  | DI | EI | INVALID
deriving DecidableEq, Repr

/-- A 16-bit register as an operand. -/
inductive Reg16 where
  | bc | de | hl | sp | af
deriving DecidableEq, Repr

/-- The memory-indirect operands (30_encoding.md R91). -/
inductive Indirect where
  | hl | bc | de | hlInc | hlDec | c
deriving DecidableEq, Repr

/-- An operand by its kind and value (30_encoding.md R91, R116). -/
inductive Operand where
  /-- register 8; never `.atHl` -/
  | reg8 (x : R8)
  | reg16 (w : Reg16)
  | imm8 (v : Byte)
  | imm16 (v : Word)
  /-- memory direct: the address the instruction holds, for `(a8)` the address its byte forms (log 29) -/
  | memDirect (addr : Word)
  | memIndirect (m : Indirect)
  | cond (cc : Cond)
  | bitIndex (n : Fin 8)
  | rstVector (v : Word)
deriving DecidableEq, Repr

/-- The nine successor kinds (30_encoding.md R116, R118). -/
inductive Successor where
  | fallthrough | unconditionalJump | conditionalJump | call | ret | rst | halt | stop | invalid
deriving DecidableEq, Repr

/-- A static target, or the marker "dynamic" (30_encoding.md R119). -/
inductive Target where
  | addr (w : Word)
  | dynamic
deriving DecidableEq, Repr

/-- The effect on one flag (30_encoding.md R120): `-`, `*`, `0`, `1`. -/
inductive FlagEffect where
  | preserved | written | cleared | set
deriving DecidableEq, Repr

/-- The effect on each of the four flags. -/
structure FlagEffects where
  z : FlagEffect
  n : FlagEffect
  h : FlagEffect
  c : FlagEffect
deriving DecidableEq, Repr

/-- A flag by name. -/
inductive FlagName where
  | z | n | h | c
deriving DecidableEq, Repr

/-- The decoded instruction record (30_encoding.md R116). -/
structure Record where
  addr : Word
  length : Nat
  cls : Cls
  operands : List Operand
  successor : Successor
  targets : List Target
  flags : FlagEffects
  flagsRead : List FlagName
  cycles : Nat
  cyclesTaken : Option Nat
deriving DecidableEq, Repr

/-- The class of an 8-bit operation. -/
def AluOp.cls : AluOp → Cls
  | .add => .ADD
  | .adc => .ADC
  | .sub => .SUB
  | .sbc => .SBC
  | .and => .AND
  | .xor => .XOR
  | .or => .OR
  | .cp => .CP

/-- The class of a CB rotate or shift. -/
def RotOp.cls : RotOp → Cls
  | .rlc => .RLC
  | .rrc => .RRC
  | .rl => .RL
  | .rr => .RR
  | .sla => .SLA
  | .sra => .SRA
  | .swap => .SWAP
  | .srl => .SRL

/-- The class of an accumulator rotate. -/
def RotAOp.cls : RotAOp → Cls
  | .rlca => .RLCA
  | .rrca => .RRCA
  | .rla => .RLA
  | .rra => .RRA

/-- The class of a CB instruction. -/
def CbForm.cls : CbForm → Cls
  | .rot op _ => op.cls
  | .bit _ _ => .BIT
  | .res _ _ => .RES
  | .set _ _ => .SET

/-- The mnemonic class of an instruction (30_encoding.md R122). -/
def Form.cls : Form → Cls
  | .nop => .NOP
  | .ld8 .atHl _ => .LD_HL_r
  | .ld8 _ .atHl => .LD_r_HL
  | .ld8 _ _ => .LD_r_r
  | .ldImm8 .atHl _ => .LD_HL_d8
  | .ldImm8 _ _ => .LD_r_d8
  | .ldAInd .bc => .LD_A_BC
  | .ldAInd .de => .LD_A_DE
  | .ldIndA .bc => .LD_BC_A
  | .ldIndA .de => .LD_DE_A
  | .ldAA16 _ => .LD_A_a16
  | .ldA16A _ => .LD_a16_A
  | .ldhAC => .LDH_A_C
  | .ldhCA => .LDH_C_A
  | .ldhAA8 _ => .LDH_A_a8
  | .ldhA8A _ => .LDH_a8_A
  | .ldAHli => .LD_A_HLI
  | .ldAHld => .LD_A_HLD
  | .ldHliA => .LD_HLI_A
  | .ldHldA => .LD_HLD_A
  | .ldRp16 _ _ => .LD_rr_d16
  | .ldA16Sp _ => .LD_a16_SP
  | .ldSpHl => .LD_SP_HL
  | .ldHlSpE8 _ => .LD_HL_SP_e8
  | .push _ => .PUSH
  | .pop _ => .POP
  | .alu op _ => op.cls
  | .aluImm op _ => op.cls
  | .inc8 _ => .INC_r
  | .dec8 _ => .DEC_r
  | .daa => .DAA
  | .cpl => .CPL
  | .scf => .SCF
  | .ccf => .CCF
  | .addHl _ => .ADD_HL_rr
  | .addSp _ => .ADD_SP_e8
  | .inc16 _ => .INC_rr
  | .dec16 _ => .DEC_rr
  | .rotA op => op.cls
  | .cb op => op.cls
  | .jp _ => .JP
  | .jpCc _ _ => .JP_cc
  | .jpHl => .JP_HL
  | .jr _ => .JR
  | .jrCc _ _ => .JR_cc
  | .call _ => .CALL
  | .callCc _ _ => .CALL_cc
  | .ret => .RET
  | .retCc _ => .RET_cc
  | .reti => .RETI
  | .rst _ => .RST
  | .halt => .HALT
  | .stop _ => .STOP
  | .di => .DI
  | .ei => .EI
  | .invalid _ => .INVALID

/-- The length in bytes (30_encoding.md R90, R93). -/
def Form.length : Form → Nat
  | .ldImm8 _ _ | .ldhAA8 _ | .ldhA8A _ | .ldHlSpE8 _ | .aluImm _ _ | .addSp _ | .cb _ | .jr _ | .jrCc _ _ | .stop _ => 2
  | .ldAA16 _ | .ldA16A _ | .ldRp16 _ _ | .ldA16Sp _ | .jp _ | .jpCc _ _ | .call _ | .callCc _ _ => 3
  | _ => 1

/-- A member of table `r` as an operand (30_encoding.md R91, R96). -/
def R8.operand : R8 → Operand
  | .atHl => .memIndirect .hl
  | x => .reg8 x

/-- A member of table `rp` as an operand (30_encoding.md R97). -/
def Rp.operand : Rp → Operand
  | .bc => .reg16 .bc
  | .de => .reg16 .de
  | .hl => .reg16 .hl
  | .sp => .reg16 .sp

/-- A member of table `rp2` as an operand (30_encoding.md R98). -/
def Rp2.operand : Rp2 → Operand
  | .bc => .reg16 .bc
  | .de => .reg16 .de
  | .hl => .reg16 .hl
  | .af => .reg16 .af

/-- `(BC)` or `(DE)` as an operand. -/
def IndPair.operand : IndPair → Operand
  | .bc => .memIndirect .bc
  | .de => .memIndirect .de

/-- The operands of a CB instruction. -/
def CbForm.operands : CbForm → List Operand
  | .rot _ x => [x.operand]
  | .bit n x | .res n x | .set n x => [.bitIndex n, x.operand]

/-- The vector of an `RST` (46_control.md R310). -/
def rstVector (y : Fin 8) : Word := BitVec.ofNat 16 (y.val * 8)

/-- The operands, in the order of the assembler syntax (30_encoding.md R91, R112, R116). DESIGN CHOICE (log 29), where the spec is silent:
the ignored byte of `STOP` is no operand, `SP+e8` is the two operands SP and the byte, and the memory-direct operand of `LDH` is the
address 0xFF00 + a8 that its byte forms. -/
def Form.operands : Form → List Operand
  | .ld8 dst src => [dst.operand, src.operand]
  | .ldImm8 dst d8 => [dst.operand, .imm8 d8]
  | .ldAInd p => [.reg8 .a, p.operand]
  | .ldIndA p => [p.operand, .reg8 .a]
  | .ldAA16 a16 => [.reg8 .a, .memDirect a16]
  | .ldA16A a16 => [.memDirect a16, .reg8 .a]
  | .ldhAC => [.reg8 .a, .memIndirect .c]
  | .ldhCA => [.memIndirect .c, .reg8 .a]
  | .ldhAA8 a8 => [.reg8 .a, .memDirect (highPage a8)]
  | .ldhA8A a8 => [.memDirect (highPage a8), .reg8 .a]
  | .ldAHli => [.reg8 .a, .memIndirect .hlInc]
  | .ldAHld => [.reg8 .a, .memIndirect .hlDec]
  | .ldHliA => [.memIndirect .hlInc, .reg8 .a]
  | .ldHldA => [.memIndirect .hlDec, .reg8 .a]
  | .ldRp16 rr d16 => [rr.operand, .imm16 d16]
  | .ldA16Sp a16 => [.memDirect a16, .reg16 .sp]
  | .ldSpHl => [.reg16 .sp, .reg16 .hl]
  | .ldHlSpE8 e8 => [.reg16 .hl, .reg16 .sp, .imm8 e8]
  | .push rr | .pop rr => [rr.operand]
  | .alu _ x => [.reg8 .a, x.operand]
  | .aluImm _ d8 => [.reg8 .a, .imm8 d8]
  | .inc8 x | .dec8 x => [x.operand]
  | .addHl rr => [.reg16 .hl, rr.operand]
  | .addSp e8 => [.reg16 .sp, .imm8 e8]
  | .inc16 rr | .dec16 rr => [rr.operand]
  | .cb op => op.operands
  | .jp a16 => [.imm16 a16]
  | .jpCc cc a16 => [.cond cc, .imm16 a16]
  | .jpHl => [.reg16 .hl]
  | .jr e8 => [.imm8 e8]
  | .jrCc cc e8 => [.cond cc, .imm8 e8]
  | .call a16 => [.imm16 a16]
  | .callCc cc a16 => [.cond cc, .imm16 a16]
  | .retCc cc => [.cond cc]
  | .rst y => [.rstVector (rstVector y)]
  | _ => []

/-- The successor kind (30_encoding.md R118). -/
def Form.successor : Form → Successor
  | .jp _ | .jr _ | .jpHl => .unconditionalJump
  | .jpCc _ _ | .jrCc _ _ => .conditionalJump
  | .call _ | .callCc _ _ => .call
  | .ret | .retCc _ | .reti => .ret
  | .rst _ => .rst
  | .halt => .halt
  | .stop _ => .stop
  | .invalid _ => .invalid
  | _ => .fallthrough

/-- The static targets, `next` being the address after the instruction (30_encoding.md R119); for a conditional the taken target stands
first. `CALL` and `RST` resume at `next` after the callee returns, which their successor kind says. -/
def Form.targets (next : Word) : Form → List Target
  | .jp a16 | .call a16 => [.addr a16]
  | .jr e8 => [.addr (next + sext16 e8)]
  | .jpCc _ a16 | .callCc _ a16 => [.addr a16, .addr next]
  | .jrCc _ e8 => [.addr (next + sext16 e8), .addr next]
  | .rst y => [.addr (rstVector y)]
  | .jpHl | .ret | .reti => [.dynamic]
  | .retCc _ => [.dynamic, .addr next]
  | .stop _ | .invalid _ => []
  | _ => [.addr next]

/-- No flag is written. -/
def FlagEffects.none : FlagEffects := ⟨.preserved, .preserved, .preserved, .preserved⟩

/-- The flag effects of an 8-bit operation (40_alu_primitives.md R131-R138). -/
def AluOp.flagEffects : AluOp → FlagEffects
  | .add | .adc => ⟨.written, .cleared, .written, .written⟩
  | .sub | .sbc | .cp => ⟨.written, .set, .written, .written⟩
  | .and => ⟨.written, .cleared, .set, .cleared⟩
  | .xor | .or => ⟨.written, .cleared, .cleared, .cleared⟩

/-- The flag effects of a CB instruction (40_alu_primitives.md R149-R159). -/
def CbForm.flagEffects : CbForm → FlagEffects
  | .rot .swap _ => ⟨.written, .cleared, .cleared, .cleared⟩
  | .rot _ _ => ⟨.written, .cleared, .cleared, .written⟩
  | .bit _ _ => ⟨.written, .cleared, .set, .preserved⟩
  | .res _ _ | .set _ _ => .none

/-- The effect on each flag (30_encoding.md R120). -/
def Form.flagEffects : Form → FlagEffects
  | .alu op _ | .aluImm op _ => op.flagEffects
  | .inc8 _ => ⟨.written, .cleared, .written, .preserved⟩
  | .dec8 _ => ⟨.written, .set, .written, .preserved⟩
  | .daa => ⟨.written, .preserved, .cleared, .written⟩
  | .cpl => ⟨.preserved, .set, .set, .preserved⟩
  | .scf => ⟨.preserved, .cleared, .cleared, .set⟩
  | .ccf => ⟨.preserved, .cleared, .cleared, .written⟩
  | .addHl _ => ⟨.preserved, .cleared, .written, .written⟩
  | .addSp _ | .ldHlSpE8 _ => ⟨.cleared, .cleared, .written, .written⟩
  | .rotA _ => ⟨.cleared, .cleared, .cleared, .written⟩
  | .cb op => op.flagEffects
  | .pop .af => ⟨.written, .written, .written, .written⟩
  | _ => .none

/-- The flag a condition tests (30_encoding.md R99). -/
def Cond.flag : Cond → FlagName
  | .nz | .z => .z
  | .nc | .c => .c

/-- The flags the result, the flags or the control flow depend on (30_encoding.md R120). -/
def Form.flagsRead : Form → List FlagName
  | .alu .adc _ | .aluImm .adc _ | .alu .sbc _ | .aluImm .sbc _ => [.c]
  | .rotA .rla | .rotA .rra | .cb (.rot .rl _) | .cb (.rot .rr _) | .ccf => [.c]
  | .daa => [.n, .h, .c]
  | .jpCc cc _ | .jrCc cc _ | .callCc cc _ | .retCc cc => [cc.flag]
  | .push .af => [.z, .n, .h, .c]
  | _ => []

/-- The `Tick` count of a CB instruction (70_reset_and_hazards.md R440). -/
def CbForm.cycles : CbForm → Nat
  | .bit _ .atHl => 12
  | .rot _ .atHl | .res _ .atHl | .set _ .atHl => 16
  | _ => 8

/-- The `Tick` count, of a conditional transfer when it is not taken (70_reset_and_hazards.md R440). -/
def Form.cycles : Form → Nat
  | .nop | .rotA _ | .daa | .cpl | .scf | .ccf | .di | .ei | .jpHl | .stop _ | .halt => 4
  | .ld8 .atHl _ | .ld8 _ .atHl => 8
  | .ld8 _ _ => 4
  | .alu _ .atHl => 8
  | .alu _ _ => 4
  | .inc8 .atHl | .dec8 .atHl => 12
  | .inc8 _ | .dec8 _ => 4
  | .ldImm8 .atHl _ => 12
  | .ldImm8 _ _ | .ldAInd _ | .ldIndA _ | .ldAHli | .ldAHld | .ldHliA | .ldHldA | .ldhAC | .ldhCA => 8
  | .aluImm _ _ | .addHl _ | .inc16 _ | .dec16 _ | .ldSpHl => 8
  | .ldhAA8 _ | .ldhA8A _ | .ldRp16 _ _ | .ldHlSpE8 _ | .pop _ | .jr _ => 12
  | .ldAA16 _ | .ldA16A _ | .push _ | .addSp _ | .jp _ | .ret | .reti | .rst _ => 16
  | .cb op => op.cycles
  | .ldA16Sp _ => 20
  | .call _ => 24
  | .jrCc _ _ | .retCc _ => 8
  | .jpCc _ _ | .callCc _ _ => 12
  | .invalid _ => 0

/-- The `Tick` count of a conditional transfer that is taken (70_reset_and_hazards.md R440). -/
def Form.cyclesTaken : Form → Option Nat
  | .jrCc _ _ => some 12
  | .jpCc _ _ => some 16
  | .callCc _ _ => some 24
  | .retCc _ => some 20
  | _ => none

/-- The condition of a conditional transfer. -/
def Form.condition : Form → Option Cond
  | .jpCc cc _ | .jrCc cc _ | .callCc cc _ | .retCc cc => some cc
  | _ => none

/-- A `Tick` follows the instruction: every one but `HALT`, which ticks inside its loop, and the invalid opcodes, which end in the fault
(47_system.md R320, 49_ir_lowering.md R361). -/
def Form.ticks : Form → Bool
  | .halt => false
  | .invalid _ => false
  | _ => true

/-- The record of an instruction at an address. -/
def Form.record (addr : Word) (f : Form) : Record where
  addr := addr
  length := f.length
  cls := f.cls
  operands := f.operands
  successor := f.successor
  targets := f.targets (addr + BitVec.ofNat 16 f.length)
  flags := f.flagEffects
  flagsRead := f.flagsRead
  cycles := f.cycles
  cyclesTaken := f.cyclesTaken

/-- The record the decoder answers for the bytes of a buffer from an offset on, at most three of which it reads; `none` where the bytes
end too early or run past the address space (30_encoding.md R116, R117). -/
def decodeRecord (bytes : List Byte) (addr : Word) : Option Record :=
  match decode (bytes.take 3) with
  | .ok (i, _) => if addr.toNat + i.form.length ≤ 0x10000 then some (i.form.record addr) else none
  | .error _ => none

/-- `Tick`'s cycle count for an instruction executed with flags `f` (47_system.md R320 item 7, 70_reset_and_hazards.md R441). -/
def Form.tickCycles (form : Form) (f : Machine.Flags) : Nat :=
  match form.condition, form.cyclesTaken with
  | some cc, some taken => if Machine.condHolds f cc then taken else form.cycles
  | _, _ => form.cycles

end Sys2Proof
end

