-- ==== Sys2Proof/Machine/Fetch.lean ====
section
/-! DEFINITION. What a step does around the meaning of an instruction: the fetch through the bus (47_system.md R320 items 2 and 3), the
`Tick` that follows (item 7), and the placing of an instruction where the next fetch finds it. -/

namespace Sys2Proof.Machine

/-- The `n` bytes at PC, read through the bus in increasing address order (47_system.md R320 item 3, 20_memory.md R84). -/
def fetchBytes (s : State) (n : Nat) : List Byte := (List.range n).map (fun k => read8 s (s.pc + BitVec.ofNat 16 k))

/-- The fetch (47_system.md R320 items 2 and 3): as many bytes as the opcode calls for, or `FetchWrap` when they would run past 0xFFFF
(30_encoding.md R117, 60_exceptions.md R381). The last arm is never reached: `opLength` bytes always decode. -/
def fetch (s : State) : Except Fault Instr :=
  let n := opLength (read8 s s.pc)
  if s.pc.toNat + n > 0x10000 then .error (.fetchWrap s.pc)
  else match decode (fetchBytes s n) with
    | .ok (i, _) => .ok i
    | .error _ => .error (.fetchWrap s.pc)

/-- Item 7 of the step (47_system.md R320): after instruction `i`, begun in state `s`, has answered `r`, its `Tick`, with the
`ime_pending` of the step's start; a fault or a refusal stays. -/
def retire (i : Instr) (s : State) (r : Result) : Result :=
  match r with
  | .next t => .next (if i.form.ticks then tick (i.form.tickCycles s.f) s.imePending t else t)
  | .fault e => .fault e
  | .refused e => .refused e

/-- The address `addr` reaches storage that can hold an instruction byte for the next fetch: not the computed joypad register, not a PPU
register, not an unmapped address. -/
def holdsByte (s : State) (addr : Word) : Bool :=
  match locate s addr with
  | .joyp => false
  | .ppu _ => false
  | .unmapped => false
  | _ => true

/-- The storage element behind `addr` set to `v` from outside the machine; unlike `write8` it reaches the cartridge image. -/
def place (s : State) (addr : Word) (v : Byte) : State :=
  match locate s addr with
  | .rom k => { s with cart := { s.cart with rom := Memory.write s.cart.rom k v } }
  | .vram k => { s with vram := Memory.write s.vram k v }
  | .eram k => { s with eram := Memory.write s.eram k v }
  | .wram k => { s with wram := Memory.write s.wram k v }
  | .oam k => { s with oam := Memory.write s.oam k v }
  | .io k => { s with io := Memory.write s.io k v }
  | .hram k => { s with hram := Memory.write s.hram k v }
  | .ie => { s with ie := v }
  | .joyp => s
  | .ppu _ => s
  | .unmapped => s

/-- Bytes placed from `addr` on. -/
def placeAll : List Byte → Word → State → State
  | [], _, s => s
  | v :: rest, addr, s => placeAll rest (addr + 1) (place s addr v)

/-- Three bytes can be placed from PC on. -/
def fetchable (s : State) : Bool :=
  decide (s.pc.toNat + 3 ≤ 0x10000) && holdsByte s s.pc && holdsByte s (s.pc + 1) && holdsByte s (s.pc + 2)

/-- `s` made ready to fetch placed bytes: not stopped, and with PC moved to work RAM where no bytes can be placed at PC (log 26). -/
def fetchReady (s : State) : State :=
  if fetchable s then { s with stopped := false } else { s with stopped := false, pc := 0xC000 }

end Sys2Proof.Machine
end

