-- ==== Sys2Proof/Machine/Step.lean ====
section
/-! DEFINITION. One step of the core (47_system.md R320, R326; 00_scope.md R8). -/

namespace Sys2Proof.Machine

/-- One step: no step when `stopped` is set (R326); else fetch (items 1 to 3), the meaning (items 4 to 6) and the `Tick` (item 7). -/
def step (s : State) : Host.Outcome State Fault Refusal :=
  if s.stopped then .refused .stopped
  else match fetch s with
    | .error e => .fault e
    | .ok i => retire i s (exec i s)

/-- `s` with an instruction, its bits numbered as spec/opcode_table.json numbers them, stored where `step` fetches next (log 4, log 26). -/
def State.withFetchWord (s : State) (nbits w : Nat) : State :=
  placeAll (tableBytes nbits w) (fetchReady s).pc (fetchReady s)

end Sys2Proof.Machine
end

