-- ==== Sys2Proof/Machine/Ir.lean ====
section
/-! DEFINITION. The decoder's IR: the algebra of operations, what each does, and the lowering of every instruction
(49_ir_lowering.md R340-R361). `step` does not use it; R362 says that running it gives what the instruction rules give. -/

namespace Sys2Proof.Machine

/-- The 8-bit registers as IR operands `r` (49_ir_lowering.md R341). -/
inductive IrReg8 where
  | a | b | c | d | e | h | l
deriving DecidableEq, Repr

/-- The 16-bit registers as IR operands `rr` (49_ir_lowering.md R341). -/
inductive IrReg16 where
  | bc | de | hl | sp | af | pc
deriving DecidableEq, Repr

/-- An effective address `ea` (49_ir_lowering.md R341). -/
inductive IrEa where
  | abs (n16 : Word)
  | indBc
  | indDe
  | indHl
  | highC
deriving DecidableEq, Repr

/-- A `target` (49_ir_lowering.md R341). -/
inductive IrTarget where
  | static (n16 : Word)
  | dynamicTemp (t : Nat)
  | dynamicReg (rr : IrReg16)
deriving DecidableEq, Repr

/-- The unary forms of `Alu8` (49_ir_lowering.md R345). -/
inductive IrUnary where
  | inc | dec
deriving DecidableEq, Repr

/-- The accumulator forms of `Alu8` (49_ir_lowering.md R340, R345). -/
inductive IrAcc where
  | daa | cpl | scf | ccf
deriving DecidableEq, Repr

/-- The kinds of `Interrupt` (49_ir_lowering.md R349). -/
inductive IrInterrupt where
  | enable | disable | enableDelayed | retAndEnable
deriving DecidableEq, Repr

/-- The IR operations (49_ir_lowering.md R340); a temporary is its number, a condition `none` is `always`. -/
inductive IrOp where
  | loadReg8 (r : IrReg8) (t : Nat)
  | loadReg16 (rr : IrReg16) (t : Nat)
  | storeReg8 (r : IrReg8) (t : Nat)
  | storeReg16 (rr : IrReg16) (t : Nat)
  | loadImm8 (n8 : Byte) (t : Nat)
  | loadImm16 (n16 : Word) (t : Nat)
  | loadMem8 (ea : IrEa) (t : Nat)
  | loadMem16 (ea : IrEa) (t : Nat)
  | storeMem8 (ea : IrEa) (t : Nat)
  | storeMem16 (ea : IrEa) (t : Nat)
  | push16 (t : Nat)
  | pop16 (t : Nat)
  | alu8 (op : AluOp) (t : Nat)
  | alu8Unary (op : IrUnary) (t t' : Nat)
  | alu8Acc (op : IrAcc)
  | alu16AddHl (t : Nat)
  | alu16AddSp (n8 : Byte) (t' : Nat)
  | alu16Unary (op : IrUnary) (t t' : Nat)
  | rot (op : RotOp) (t t' : Nat)
  | rotA (op : RotAOp)
  | rotBit (n : Fin 8) (t : Nat)
  | rotRes (n : Fin 8) (t t' : Nat)
  | rotSet (n : Fin 8) (t t' : Nat)
  | branch (target : IrTarget) (condition : Option Cond)
  | call (target : IrTarget) (condition : Option Cond)
  | ret (condition : Option Cond)
  | rst (vector : Word)
  | interrupt (kind : IrInterrupt)
  | halt
  | stop
  | trap (addr : Word) (op : Byte)
  | tick (base takenCycles : Nat)
deriving DecidableEq, Repr

/-- The value of a temporary: 8 or 16 bits (49_ir_lowering.md R341). -/
inductive IrVal where
  | b8 (v : Byte)
  | b16 (w : Word)
deriving DecidableEq, Repr

/-- The state of an IR sequence (49_ir_lowering.md R341): the core, the temporaries written so far, `taken`, and the `ime_pending`
captured at the start of the step. -/
structure IrState where
  core : State
  temps : List (Nat × IrVal)
  taken : Bool
  p : Bool
deriving DecidableEq, Repr

/-- A temporary read as 8 bits; every lowering reads a temporary after writing it, with the same width. DESIGN CHOICE: of a 16-bit value
the low byte (log 30), before any write 0 (log 22). -/
def IrState.temp8 (s : IrState) (t : Nat) : Byte :=
  match s.temps.lookup t with
  | some (.b8 v) => v
  | some (.b16 w) => loByte w
  | none => 0

/-- A temporary read as 16 bits. DESIGN CHOICE: an 8-bit value is zero-extended (log 30), before any write 0 (log 22). -/
def IrState.temp16 (s : IrState) (t : Nat) : Word :=
  match s.temps.lookup t with
  | some (.b16 w) => w
  | some (.b8 v) => zext16 v
  | none => 0

/-- A temporary written; R341 has it written once. DESIGN CHOICE (log 30): a second write shadows the first. -/
def IrState.setTemp (s : IrState) (t : Nat) (v : IrVal) : IrState := { s with temps := (t, v) :: s.temps }

/-- The core state replaced. -/
def IrState.setCore (s : IrState) (core : State) : IrState := { s with core := core }

/-- An 8-bit register read. -/
def IrReg8.read (s : State) : IrReg8 → Byte
  | .a => s.a
  | .b => s.b
  | .c => s.c
  | .d => s.d
  | .e => s.e
  | .h => s.h
  | .l => s.l

/-- An 8-bit register written. -/
def IrReg8.write (s : State) (r : IrReg8) (v : Byte) : State :=
  match r with
  | .a => { s with a := v }
  | .b => { s with b := v }
  | .c => { s with c := v }
  | .d => { s with d := v }
  | .e => { s with e := v }
  | .h => { s with h := v }
  | .l => { s with l := v }

/-- A 16-bit register read. -/
def IrReg16.read (s : State) : IrReg16 → Word
  | .bc => s.bc
  | .de => s.de
  | .hl => s.hl
  | .sp => s.sp
  | .af => s.af
  | .pc => s.pc

/-- A 16-bit register written. -/
def IrReg16.write (s : State) (rr : IrReg16) (w : Word) : State :=
  match rr with
  | .bc => s.setBc w
  | .de => s.setDe w
  | .hl => s.setHl w
  | .sp => { s with sp := w }
  | .af => s.setAf w
  | .pc => { s with pc := w }

/-- An effective address evaluated (49_ir_lowering.md R343). -/
def IrEa.eval (s : State) : IrEa → Word
  | .abs n16 => n16
  | .indBc => s.bc
  | .indDe => s.de
  | .indHl => s.hl
  | .highC => highPage s.c

/-- A target evaluated (49_ir_lowering.md R348). -/
def IrTarget.eval (s : IrState) : IrTarget → Word
  | .static n16 => n16
  | .dynamicTemp t => s.temp16 t
  | .dynamicReg rr => rr.read s.core

/-- `taken <- 1; PC <- value(target)` (49_ir_lowering.md R348). -/
def IrState.jump (s : IrState) (target : IrTarget) : IrState :=
  { s with taken := true, core := { s.core with pc := target.eval s } }

/-- A condition evaluated; `none` is `always` (49_ir_lowering.md R341). -/
def irCond (s : State) : Option Cond → Bool
  | some cc => condHolds s.f cc
  | none => true

/-- The binary forms of `Alu8` on A and an operand (49_ir_lowering.md R345). -/
def irAlu8 (op : AluOp) (v : Byte) (s : State) : State :=
  match op with
  | .add => { s with a := (add8 s.a v).1, f := (add8 s.a v).2 }
  | .adc => { s with a := (adc8 s.a v s.f.c).1, f := (adc8 s.a v s.f.c).2 }
  | .sub => { s with a := (sub8 s.a v).1, f := (sub8 s.a v).2 }
  | .sbc => { s with a := (sbc8 s.a v s.f.c).1, f := (sbc8 s.a v s.f.c).2 }
  | .and => { s with a := (and8 s.a v).1, f := (and8 s.a v).2 }
  | .xor => { s with a := (xor8 s.a v).1, f := (xor8 s.a v).2 }
  | .or => { s with a := (or8 s.a v).1, f := (or8 s.a v).2 }
  | .cp => { s with f := cp8 s.a v }

/-- The unary forms of `Alu8` (49_ir_lowering.md R345). -/
def irUnary8 (op : IrUnary) (v : Byte) (c : Bool) : Byte × Flags :=
  match op with
  | .inc => inc8 v c
  | .dec => dec8 v c

/-- The accumulator forms of `Alu8` (49_ir_lowering.md R345). -/
def irAcc (op : IrAcc) (s : State) : State :=
  match op with
  | .daa => { s with a := (daa s.a s.f.n s.f.h s.f.c).1, f := (daa s.a s.f.n s.f.h s.f.c).2 }
  | .cpl => { s with a := (cpl s.a s.f).1, f := (cpl s.a s.f).2 }
  | .scf => { s with f := scf s.f }
  | .ccf => { s with f := ccf s.f }

/-- The unary forms of `Alu16` (49_ir_lowering.md R346). -/
def irUnary16 (op : IrUnary) (w : Word) : Word :=
  match op with
  | .inc => inc16 w
  | .dec => dec16 w

/-- The kinds of `Interrupt` (49_ir_lowering.md R349). -/
def irInterrupt (kind : IrInterrupt) (s : State) : State :=
  match kind with
  | .enable => { s with ime := true, imePending := false }
  | .disable => { s with ime := false, imePending := false }
  | .enableDelayed => { s with imePending := true }
  | .retAndEnable => returnFromInterrupt s

/-- One IR operation (49_ir_lowering.md R342-R350). -/
def irExec (op : IrOp) (s : IrState) : Except Fault IrState :=
  match op with
  | .loadReg8 r t => .ok (s.setTemp t (.b8 (r.read s.core)))
  | .loadReg16 rr t => .ok (s.setTemp t (.b16 (rr.read s.core)))
  | .storeReg8 r t => .ok (s.setCore (r.write s.core (s.temp8 t)))
  | .storeReg16 rr t => .ok (s.setCore (rr.write s.core (s.temp16 t)))
  | .loadImm8 n8 t => .ok (s.setTemp t (.b8 n8))
  | .loadImm16 n16 t => .ok (s.setTemp t (.b16 n16))
  | .loadMem8 ea t => .ok (s.setTemp t (.b8 (read8 s.core (ea.eval s.core))))
  | .loadMem16 ea t => .ok (s.setTemp t (.b16 (read16 s.core (ea.eval s.core))))
  | .storeMem8 ea t => .ok (s.setCore (write8 s.core (ea.eval s.core) (s.temp8 t)))
  | .storeMem16 ea t => .ok (s.setCore (write16 s.core (ea.eval s.core) (s.temp16 t)))
  | .push16 t => .ok (s.setCore (Machine.push16 s.core (s.temp16 t)))
  | .pop16 t => .ok ((s.setTemp t (.b16 (popWord s.core))).setCore (popState s.core))
  | .alu8 op t => .ok (s.setCore (irAlu8 op (s.temp8 t) s.core))
  | .alu8Unary op t t' =>
    let r := irUnary8 op (s.temp8 t) s.core.f.c
    .ok ((s.setTemp t' (.b8 r.1)).setCore (s.core.setFlags r.2))
  | .alu8Acc op => .ok (s.setCore (irAcc op s.core))
  | .alu16AddHl t =>
    let r := add16 s.core.hl (s.temp16 t) s.core.f.z
    .ok (s.setCore ((s.core.setHl r.1).setFlags r.2))
  | .alu16AddSp n8 t' =>
    let r := addSp s.core.sp n8
    .ok ((s.setTemp t' (.b16 r.1)).setCore (s.core.setFlags r.2))
  | .alu16Unary op t t' => .ok (s.setTemp t' (.b16 (irUnary16 op (s.temp16 t))))
  | .rot op t t' =>
    let r := rotResult op (s.temp8 t) s.core.f.c
    .ok ((s.setTemp t' (.b8 r.1)).setCore (s.core.setFlags r.2))
  | .rotA op =>
    let r := rotAccResult op s.core.a s.core.f.c
    .ok (s.setCore { s.core with a := r.1, f := r.2 })
  | .rotBit n t => .ok (s.setCore (s.core.setFlags (bitTest n (s.temp8 t) s.core.f.c)))
  | .rotRes n t t' => .ok (s.setTemp t' (.b8 (resBit n (s.temp8 t))))
  | .rotSet n t t' => .ok (s.setTemp t' (.b8 (setBit n (s.temp8 t))))
  | .branch target condition =>
    .ok (if irCond s.core condition then s.jump target else s)
  | .call target condition =>
    .ok (if irCond s.core condition then (s.setCore (Machine.push16 s.core s.core.pc)).jump target else s)
  | .ret condition =>
    .ok (if irCond s.core condition
      then { s with taken := true, core := { popState s.core with pc := popWord s.core } } else s)
  | .rst vector => .ok (s.setCore { Machine.push16 s.core s.core.pc with pc := vector })
  | .interrupt kind => .ok (s.setCore (irInterrupt kind s.core))
  | .halt => .ok (s.setCore (haltLoop s.p Config.haltFuseCycles 0 { s.core with halted := true }))
  | .stop => .ok (s.setCore { s.core with stopped := true })
  | .trap addr op => .error (.invalidOpcode addr op)
  | .tick base takenCycles => .ok (s.setCore (Machine.tick (if s.taken then takenCycles else base) s.p s.core))

/-- An IR sequence, up to the first trap. -/
def irRun : List IrOp → IrState → Except Fault IrState
  | [], s => .ok s
  | op :: rest, s =>
    match irExec op s with
    | .ok t => irRun rest t
    | .error e => .error e

/-- "load X -> t" of 49_ir_lowering.md R360. -/
def irLoad (t : Nat) : R8 → IrOp
  | .a => .loadReg8 .a t
  | .b => .loadReg8 .b t
  | .c => .loadReg8 .c t
  | .d => .loadReg8 .d t
  | .e => .loadReg8 .e t
  | .h => .loadReg8 .h t
  | .l => .loadReg8 .l t
  | .atHl => .loadMem8 .indHl t

/-- "store X, t" of 49_ir_lowering.md R360. -/
def irStore (t : Nat) : R8 → IrOp
  | .a => .storeReg8 .a t
  | .b => .storeReg8 .b t
  | .c => .storeReg8 .c t
  | .d => .storeReg8 .d t
  | .e => .storeReg8 .e t
  | .h => .storeReg8 .h t
  | .l => .storeReg8 .l t
  | .atHl => .storeMem8 .indHl t

/-- A member of table `rp` as an IR operand. -/
def irRp : Rp → IrReg16
  | .bc => .bc
  | .de => .de
  | .hl => .hl
  | .sp => .sp

/-- A member of table `rp2` as an IR operand. -/
def irRp2 : Rp2 → IrReg16
  | .bc => .bc
  | .de => .de
  | .hl => .hl
  | .af => .af

/-- `(BC)` or `(DE)` as an effective address. -/
def irInd : IndPair → IrEa
  | .bc => .indBc
  | .de => .indDe

/-- `HL <- HL + 1` or `HL <- HL - 1` after a load or store through HL (49_ir_lowering.md R360). -/
def irBumpHl (op : IrUnary) : List IrOp := [.loadReg16 .hl 1, .alu16Unary op 1 2, .storeReg16 .hl 2]

/-- The lowering of a CB instruction (49_ir_lowering.md R360). -/
def lowerCb : CbForm → List IrOp
  | .rot op x => [irLoad 0 x, .rot op 0 1, irStore 1 x]
  | .bit n x => [irLoad 0 x, .rotBit n 0]
  | .res n x => [irLoad 0 x, .rotRes n 0 1, irStore 1 x]
  | .set n x => [irLoad 0 x, .rotSet n 0 1, irStore 1 x]

/-- The lowering of an instruction at `addr`, `next` the address after it, without the `Tick` (49_ir_lowering.md R360). -/
def lowerBody (addr next : Word) : Form → List IrOp
  | .nop => []
  | .ld8 dst src => [irLoad 0 src, irStore 0 dst]
  | .ldImm8 dst d8 => [.loadImm8 d8 0, irStore 0 dst]
  | .ldAInd p => [.loadMem8 (irInd p) 0, .storeReg8 .a 0]
  | .ldIndA p => [.loadReg8 .a 0, .storeMem8 (irInd p) 0]
  | .ldAA16 a16 => [.loadMem8 (.abs a16) 0, .storeReg8 .a 0]
  | .ldA16A a16 => [.loadReg8 .a 0, .storeMem8 (.abs a16) 0]
  | .ldhAA8 a8 => [.loadMem8 (.abs (highPage a8)) 0, .storeReg8 .a 0]
  | .ldhA8A a8 => [.loadReg8 .a 0, .storeMem8 (.abs (highPage a8)) 0]
  | .ldhAC => [.loadMem8 .highC 0, .storeReg8 .a 0]
  | .ldhCA => [.loadReg8 .a 0, .storeMem8 .highC 0]
  | .ldAHli => [.loadMem8 .indHl 0, .storeReg8 .a 0] ++ irBumpHl .inc
  | .ldAHld => [.loadMem8 .indHl 0, .storeReg8 .a 0] ++ irBumpHl .dec
  | .ldHliA => [.loadReg8 .a 0, .storeMem8 .indHl 0] ++ irBumpHl .inc
  | .ldHldA => [.loadReg8 .a 0, .storeMem8 .indHl 0] ++ irBumpHl .dec
  | .ldRp16 rr d16 => [.loadImm16 d16 0, .storeReg16 (irRp rr) 0]
  | .ldA16Sp a16 => [.loadReg16 .sp 0, .storeMem16 (.abs a16) 0]
  | .ldSpHl => [.loadReg16 .hl 0, .storeReg16 .sp 0]
  | .ldHlSpE8 e8 => [.alu16AddSp e8 0, .storeReg16 .hl 0]
  | .push rr => [.loadReg16 (irRp2 rr) 0, .push16 0]
  | .pop rr => [.pop16 0, .storeReg16 (irRp2 rr) 0]
  | .alu op x => [irLoad 0 x, .alu8 op 0]
  | .aluImm op d8 => [.loadImm8 d8 0, .alu8 op 0]
  | .inc8 x => [irLoad 0 x, .alu8Unary .inc 0 1, irStore 1 x]
  | .dec8 x => [irLoad 0 x, .alu8Unary .dec 0 1, irStore 1 x]
  | .daa => [.alu8Acc .daa]
  | .cpl => [.alu8Acc .cpl]
  | .scf => [.alu8Acc .scf]
  | .ccf => [.alu8Acc .ccf]
  | .addHl rr => [.loadReg16 (irRp rr) 0, .alu16AddHl 0]
  | .addSp e8 => [.alu16AddSp e8 0, .storeReg16 .sp 0]
  | .inc16 rr => [.loadReg16 (irRp rr) 0, .alu16Unary .inc 0 1, .storeReg16 (irRp rr) 1]
  | .dec16 rr => [.loadReg16 (irRp rr) 0, .alu16Unary .dec 0 1, .storeReg16 (irRp rr) 1]
  | .rotA op => [.rotA op]
  | .cb op => lowerCb op
  | .jp a16 => [.branch (.static a16) none]
  | .jpCc cc a16 => [.branch (.static a16) (some cc)]
  | .jpHl => [.branch (.dynamicReg .hl) none]
  | .jr e8 => [.branch (.static (next + sext16 e8)) none]
  | .jrCc cc e8 => [.branch (.static (next + sext16 e8)) (some cc)]
  | .call a16 => [.call (.static a16) none]
  | .callCc cc a16 => [.call (.static a16) (some cc)]
  | .ret => [.ret none]
  | .retCc cc => [.ret (some cc)]
  | .reti => [.interrupt .retAndEnable]
  | .rst y => [.rst (rstVector y)]
  | .halt => [.halt]
  | .stop _ => [.stop]
  | .di => [.interrupt .disable]
  | .ei => [.interrupt .enableDelayed]
  | .invalid op => [.trap addr op]

/-- The one `Tick` that ends a lowering, absent from `HALT` and the invalid opcodes (49_ir_lowering.md R361). -/
def lowerTick (f : Form) : List IrOp :=
  if f.ticks then [.tick f.cycles (f.cyclesTaken.getD f.cycles)] else []

/-- The lowering of an instruction at `addr` (49_ir_lowering.md R360, R361). -/
def lower (addr : Word) (f : Form) : List IrOp :=
  lowerBody addr (addr + BitVec.ofNat 16 f.length) f ++ lowerTick f

/-- An instruction executed by its IR, `Tick` included, from a state whose PC is the instruction's address: PC is advanced first, and
a trap leaves the state as it was (49_ir_lowering.md R341, R350). -/
def execViaIr (i : Instr) (s : State) : Result :=
  match irRun (lower s.pc i.form) ⟨s.advance i.form.length, [], false, s.imePending⟩ with
  | .ok t => .next t.core
  | .error e => .fault e

end Sys2Proof.Machine
end

