-- ==== Sys2Proof/Safety.lean ====
section
/-! DEFINITION. What claims call a good state and a safe run. -/

namespace Sys2Proof.Machine

/-- Every memory array is in canonical form and lists no element beyond its size (10_state.md R37). -/
def State.memoryOk (s : State) : Bool :=
  s.cart.rom.wf && s.cart.rom.within s.cart.romSize && s.vram.wf && s.vram.within 0x4000 &&
  s.eram.wf && s.eram.within s.cart.eramSize && s.wram.wf && s.wram.within 0x8000 &&
  s.oam.wf && s.oam.within 160 && s.hram.wf && s.hram.within 127 && s.io.wf && s.io.within 128

/-- The bank state is one the bank-register writes of the cartridge's MBC can leave, starting at reset
(20_memory.md R67, R68, R69; 70_reset_and_hazards.md R423). -/
def State.banksOk (s : State) : Bool :=
  match s.cart.mbc with
  | .none => decide (s.romBank = 1) && decide (s.eramBank = 0) && !s.ramEnable && !s.bankingMode
  | .mbc1 => decide (s.romBank.toNat % 32 ≠ 0) && decide (s.romBank.toNat < 128) && decide (s.eramBank.toNat < 4)
  | .mbc2 => decide (s.romBank ≠ 0) && decide (s.romBank.toNat < 16) && decide (s.eramBank = 0) && !s.bankingMode
  | .mbc3 => decide (s.romBank ≠ 0) && decide (s.romBank.toNat < 128) && !s.bankingMode
  | .mbc5 => decide (s.romBank.toNat < 256) && !s.bankingMode

/-- What holds at every step boundary: `halted` is 0 (47_system.md R323), the CGB banks keep their reset values (10_state.md R35), the
banks and the memories are well-formed. -/
structure State.Inv (s : State) : Prop where
  halted : s.halted = false
  wramBank : s.wramBank = 1
  vramBank : s.vramBank = 0
  banks : s.banksOk = true
  memory : s.memoryOk = true

/-- The states a run passes through. -/
inductive Reaches : State → State → Prop where
  | refl (s : State) : Reaches s s
  | step {s t u : State} (h : Reaches s t) (hu : Machine.step t = .next u) : Reaches s u

/-- A safe run: no state it passes through steps to a fault (00_scope.md R8: a faulted state is never final). -/
def SafeFrom (s : State) : Prop := ∀ t, Reaches s t → ∀ e, Machine.step t ≠ .fault e

end Sys2Proof.Machine
end

