-- ==== Sys2Proof/WellFormed.lean ====
section
/-! DEFINITION. The check on an instruction as syntax. Every operand field holds exactly what its encoding admits (a byte, or a
16-bit word), so the one term that is no decoded instruction is the prefix row. -/

namespace Sys2Proof

/-- The prefix row `PREFIX CB` is never the class of a decoded record (30_encoding.md R110, R122): its two bytes are the CB row that
the second byte selects. Every other constructor is an instruction the decoder yields, at every value of its operands. -/
def Instr.wellFormed : Instr → Bool
  | .prefixCb _ => false
  | _ => true

end Sys2Proof
end

