-- ==== Sys2Proof/Certificates/Slice0/Obligations.lean ====
section
/-! DEFINITION. The statements about the model. First the words they use: tables of instructions by operand, results in plain
arithmetic, and what an instruction may change. -/

namespace Sys2Proof.Stmt
open Sys2Proof.Machine

/-! ### The rows of spec/opcode_table.json, by operand -/

/-- `LD r,r'` and `LD r,(HL)`: instruction, destination, source (41_load8.md R180, R182). -/
def loadRows : List (Instr × R8 × R8) :=
  List.flatten [
    [(.ldBB, .b, .b), (.ldBC, .b, .c), (.ldBD, .b, .d), (.ldBE, .b, .e), (.ldBH, .b, .h), (.ldBL, .b, .l), (.ldBAtHl, .b, .atHl), (.ldBA, .b, .a)],
    [(.ldCB, .c, .b), (.ldCC, .c, .c), (.ldCD, .c, .d), (.ldCE, .c, .e), (.ldCH, .c, .h), (.ldCL, .c, .l), (.ldCAtHl, .c, .atHl), (.ldCA, .c, .a)],
    [(.ldDB, .d, .b), (.ldDC, .d, .c), (.ldDD, .d, .d), (.ldDE, .d, .e), (.ldDH, .d, .h), (.ldDL, .d, .l), (.ldDAtHl, .d, .atHl), (.ldDA, .d, .a)],
    [(.ldEB, .e, .b), (.ldEC, .e, .c), (.ldED, .e, .d), (.ldEE, .e, .e), (.ldEH, .e, .h), (.ldEL, .e, .l), (.ldEAtHl, .e, .atHl), (.ldEA, .e, .a)],
    [(.ldHB, .h, .b), (.ldHC, .h, .c), (.ldHD, .h, .d), (.ldHE, .h, .e), (.ldHH, .h, .h), (.ldHL, .h, .l), (.ldHAtHl, .h, .atHl), (.ldHA, .h, .a)],
    [(.ldLB, .l, .b), (.ldLC, .l, .c), (.ldLD, .l, .d), (.ldLE, .l, .e), (.ldLH, .l, .h), (.ldLL, .l, .l), (.ldLAtHl, .l, .atHl), (.ldLA, .l, .a)],
    [(.ldAB, .a, .b), (.ldAC, .a, .c), (.ldAD, .a, .d), (.ldAE, .a, .e), (.ldAH, .a, .h), (.ldAL, .a, .l), (.ldAAtHl, .a, .atHl), (.ldAA, .a, .a)]]

/-- `LD r,d8` (41_load8.md R181). -/
def loadImmRows : List ((Byte → Instr) × R8) :=
  [(.ldBD8, .b), (.ldCD8, .c), (.ldDD8, .d), (.ldED8, .e), (.ldHD8, .h), (.ldLD8, .l), (.ldAD8, .a)]

/-- `LD (HL),r` (41_load8.md R183). -/
def storeRows : List (Instr × R8) :=
  [(.ldAtHlB, .b), (.ldAtHlC, .c), (.ldAtHlD, .d), (.ldAtHlE, .e), (.ldAtHlH, .h), (.ldAtHlL, .l), (.ldAtHlA, .a)]

/-- `ADD A,r` and `ADD A,(HL)` (43_alu8.md R230). -/
def addRows : List (Instr × R8) :=
  [(.addAB, .b), (.addAC, .c), (.addAD, .d), (.addAE, .e), (.addAH, .h), (.addAL, .l), (.addAAtHl, .atHl), (.addAA, .a)]

/-- `ADC A,r` and `ADC A,(HL)` (43_alu8.md R231). -/
def adcRows : List (Instr × R8) :=
  [(.adcAB, .b), (.adcAC, .c), (.adcAD, .d), (.adcAE, .e), (.adcAH, .h), (.adcAL, .l), (.adcAAtHl, .atHl), (.adcAA, .a)]

/-- `SUB A,r` and `SUB A,(HL)` (43_alu8.md R232). -/
def subRows : List (Instr × R8) :=
  [(.subAB, .b), (.subAC, .c), (.subAD, .d), (.subAE, .e), (.subAH, .h), (.subAL, .l), (.subAAtHl, .atHl), (.subAA, .a)]

/-- `SBC A,r` and `SBC A,(HL)` (43_alu8.md R233). -/
def sbcRows : List (Instr × R8) :=
  [(.sbcAB, .b), (.sbcAC, .c), (.sbcAD, .d), (.sbcAE, .e), (.sbcAH, .h), (.sbcAL, .l), (.sbcAAtHl, .atHl), (.sbcAA, .a)]

/-- `AND A,r` and `AND A,(HL)` (43_alu8.md R234). -/
def andRows : List (Instr × R8) :=
  [(.andAB, .b), (.andAC, .c), (.andAD, .d), (.andAE, .e), (.andAH, .h), (.andAL, .l), (.andAAtHl, .atHl), (.andAA, .a)]

/-- `XOR A,r` and `XOR A,(HL)` (43_alu8.md R235). -/
def xorRows : List (Instr × R8) :=
  [(.xorAB, .b), (.xorAC, .c), (.xorAD, .d), (.xorAE, .e), (.xorAH, .h), (.xorAL, .l), (.xorAAtHl, .atHl), (.xorAA, .a)]

/-- `OR A,r` and `OR A,(HL)` (43_alu8.md R236). -/
def orRows : List (Instr × R8) :=
  [(.orAB, .b), (.orAC, .c), (.orAD, .d), (.orAE, .e), (.orAH, .h), (.orAL, .l), (.orAAtHl, .atHl), (.orAA, .a)]

/-- `CP A,r` and `CP A,(HL)` (43_alu8.md R237). -/
def cpRows : List (Instr × R8) :=
  [(.cpAB, .b), (.cpAC, .c), (.cpAD, .d), (.cpAE, .e), (.cpAH, .h), (.cpAL, .l), (.cpAAtHl, .atHl), (.cpAA, .a)]

/-- `INC r` and `INC (HL)` (43_alu8.md R238). -/
def incRows : List (Instr × R8) :=
  [(.incB, .b), (.incC, .c), (.incD, .d), (.incE, .e), (.incH, .h), (.incL, .l), (.incAtHl, .atHl), (.incA, .a)]

/-- `DEC r` and `DEC (HL)` (43_alu8.md R239). -/
def decRows : List (Instr × R8) :=
  [(.decB, .b), (.decC, .c), (.decD, .d), (.decE, .e), (.decH, .h), (.decL, .l), (.decAtHl, .atHl), (.decA, .a)]

/-- `LD rr,d16` (42_load16_stack.md R210). -/
def loadPairRows : List ((Word → Instr) × Rp) :=
  [(.ldBcD16, .bc), (.ldDeD16, .de), (.ldHlD16, .hl), (.ldSpD16, .sp)]

/-- `ADD HL,rr` (44_alu16.md R260). -/
def addHlRows : List (Instr × Rp) :=
  [(.addHlBc, .bc), (.addHlDe, .de), (.addHlHl, .hl), (.addHlSp, .sp)]

/-- `INC rr` (44_alu16.md R262). -/
def incPairRows : List (Instr × Rp) :=
  [(.incBc, .bc), (.incDe, .de), (.incHl, .hl), (.incSp, .sp)]

/-- `DEC rr` (44_alu16.md R263). -/
def decPairRows : List (Instr × Rp) :=
  [(.decBc, .bc), (.decDe, .de), (.decHl, .hl), (.decSp, .sp)]

/-- `PUSH rr` (42_load16_stack.md R214). -/
def pushRows : List (Instr × Rp2) :=
  [(.pushBc, .bc), (.pushDe, .de), (.pushHl, .hl), (.pushAf, .af)]

/-- `POP rr` (42_load16_stack.md R215). -/
def popRows : List (Instr × Rp2) :=
  [(.popBc, .bc), (.popDe, .de), (.popHl, .hl), (.popAf, .af)]

/-- The accumulator rotates and the CB operation each is built on (45_rotate_bit.md R270-R273). -/
def rotARows : List (Instr × RotOp) :=
  [(.rlca, .rlc), (.rrca, .rrc), (.rla, .rl), (.rra, .rr)]

/-- The CB rotates and shifts (45_rotate_bit.md R274-R281). -/
def rotRows : List (Instr × RotOp × R8) :=
  List.flatten [
    [(.rlcB, .rlc, .b), (.rlcC, .rlc, .c), (.rlcD, .rlc, .d), (.rlcE, .rlc, .e), (.rlcH, .rlc, .h), (.rlcL, .rlc, .l), (.rlcAtHl, .rlc, .atHl), (.rlcA, .rlc, .a)],
    [(.rrcB, .rrc, .b), (.rrcC, .rrc, .c), (.rrcD, .rrc, .d), (.rrcE, .rrc, .e), (.rrcH, .rrc, .h), (.rrcL, .rrc, .l), (.rrcAtHl, .rrc, .atHl), (.rrcA, .rrc, .a)],
    [(.rlB, .rl, .b), (.rlC, .rl, .c), (.rlD, .rl, .d), (.rlE, .rl, .e), (.rlH, .rl, .h), (.rlL, .rl, .l), (.rlAtHl, .rl, .atHl), (.rlA, .rl, .a)],
    [(.rrB, .rr, .b), (.rrC, .rr, .c), (.rrD, .rr, .d), (.rrE, .rr, .e), (.rrH, .rr, .h), (.rrL, .rr, .l), (.rrAtHl, .rr, .atHl), (.rrA, .rr, .a)],
    [(.slaB, .sla, .b), (.slaC, .sla, .c), (.slaD, .sla, .d), (.slaE, .sla, .e), (.slaH, .sla, .h), (.slaL, .sla, .l), (.slaAtHl, .sla, .atHl), (.slaA, .sla, .a)],
    [(.sraB, .sra, .b), (.sraC, .sra, .c), (.sraD, .sra, .d), (.sraE, .sra, .e), (.sraH, .sra, .h), (.sraL, .sra, .l), (.sraAtHl, .sra, .atHl), (.sraA, .sra, .a)],
    [(.swapB, .swap, .b), (.swapC, .swap, .c), (.swapD, .swap, .d), (.swapE, .swap, .e), (.swapH, .swap, .h), (.swapL, .swap, .l), (.swapAtHl, .swap, .atHl), (.swapA, .swap, .a)],
    [(.srlB, .srl, .b), (.srlC, .srl, .c), (.srlD, .srl, .d), (.srlE, .srl, .e), (.srlH, .srl, .h), (.srlL, .srl, .l), (.srlAtHl, .srl, .atHl), (.srlA, .srl, .a)]]

/-- `BIT n,r` and `BIT n,(HL)` (45_rotate_bit.md R282). -/
def bitRows : List (Instr × Fin 8 × R8) :=
  List.flatten [
    [(.bit0B, 0, .b), (.bit0C, 0, .c), (.bit0D, 0, .d), (.bit0E, 0, .e), (.bit0H, 0, .h), (.bit0L, 0, .l), (.bit0AtHl, 0, .atHl), (.bit0A, 0, .a)],
    [(.bit1B, 1, .b), (.bit1C, 1, .c), (.bit1D, 1, .d), (.bit1E, 1, .e), (.bit1H, 1, .h), (.bit1L, 1, .l), (.bit1AtHl, 1, .atHl), (.bit1A, 1, .a)],
    [(.bit2B, 2, .b), (.bit2C, 2, .c), (.bit2D, 2, .d), (.bit2E, 2, .e), (.bit2H, 2, .h), (.bit2L, 2, .l), (.bit2AtHl, 2, .atHl), (.bit2A, 2, .a)],
    [(.bit3B, 3, .b), (.bit3C, 3, .c), (.bit3D, 3, .d), (.bit3E, 3, .e), (.bit3H, 3, .h), (.bit3L, 3, .l), (.bit3AtHl, 3, .atHl), (.bit3A, 3, .a)],
    [(.bit4B, 4, .b), (.bit4C, 4, .c), (.bit4D, 4, .d), (.bit4E, 4, .e), (.bit4H, 4, .h), (.bit4L, 4, .l), (.bit4AtHl, 4, .atHl), (.bit4A, 4, .a)],
    [(.bit5B, 5, .b), (.bit5C, 5, .c), (.bit5D, 5, .d), (.bit5E, 5, .e), (.bit5H, 5, .h), (.bit5L, 5, .l), (.bit5AtHl, 5, .atHl), (.bit5A, 5, .a)],
    [(.bit6B, 6, .b), (.bit6C, 6, .c), (.bit6D, 6, .d), (.bit6E, 6, .e), (.bit6H, 6, .h), (.bit6L, 6, .l), (.bit6AtHl, 6, .atHl), (.bit6A, 6, .a)],
    [(.bit7B, 7, .b), (.bit7C, 7, .c), (.bit7D, 7, .d), (.bit7E, 7, .e), (.bit7H, 7, .h), (.bit7L, 7, .l), (.bit7AtHl, 7, .atHl), (.bit7A, 7, .a)]]

/-- `RES n,r` and `RES n,(HL)` (45_rotate_bit.md R283). -/
def resRows : List (Instr × Fin 8 × R8) :=
  List.flatten [
    [(.res0B, 0, .b), (.res0C, 0, .c), (.res0D, 0, .d), (.res0E, 0, .e), (.res0H, 0, .h), (.res0L, 0, .l), (.res0AtHl, 0, .atHl), (.res0A, 0, .a)],
    [(.res1B, 1, .b), (.res1C, 1, .c), (.res1D, 1, .d), (.res1E, 1, .e), (.res1H, 1, .h), (.res1L, 1, .l), (.res1AtHl, 1, .atHl), (.res1A, 1, .a)],
    [(.res2B, 2, .b), (.res2C, 2, .c), (.res2D, 2, .d), (.res2E, 2, .e), (.res2H, 2, .h), (.res2L, 2, .l), (.res2AtHl, 2, .atHl), (.res2A, 2, .a)],
    [(.res3B, 3, .b), (.res3C, 3, .c), (.res3D, 3, .d), (.res3E, 3, .e), (.res3H, 3, .h), (.res3L, 3, .l), (.res3AtHl, 3, .atHl), (.res3A, 3, .a)],
    [(.res4B, 4, .b), (.res4C, 4, .c), (.res4D, 4, .d), (.res4E, 4, .e), (.res4H, 4, .h), (.res4L, 4, .l), (.res4AtHl, 4, .atHl), (.res4A, 4, .a)],
    [(.res5B, 5, .b), (.res5C, 5, .c), (.res5D, 5, .d), (.res5E, 5, .e), (.res5H, 5, .h), (.res5L, 5, .l), (.res5AtHl, 5, .atHl), (.res5A, 5, .a)],
    [(.res6B, 6, .b), (.res6C, 6, .c), (.res6D, 6, .d), (.res6E, 6, .e), (.res6H, 6, .h), (.res6L, 6, .l), (.res6AtHl, 6, .atHl), (.res6A, 6, .a)],
    [(.res7B, 7, .b), (.res7C, 7, .c), (.res7D, 7, .d), (.res7E, 7, .e), (.res7H, 7, .h), (.res7L, 7, .l), (.res7AtHl, 7, .atHl), (.res7A, 7, .a)]]

/-- `SET n,r` and `SET n,(HL)` (45_rotate_bit.md R284). -/
def setRows : List (Instr × Fin 8 × R8) :=
  List.flatten [
    [(.set0B, 0, .b), (.set0C, 0, .c), (.set0D, 0, .d), (.set0E, 0, .e), (.set0H, 0, .h), (.set0L, 0, .l), (.set0AtHl, 0, .atHl), (.set0A, 0, .a)],
    [(.set1B, 1, .b), (.set1C, 1, .c), (.set1D, 1, .d), (.set1E, 1, .e), (.set1H, 1, .h), (.set1L, 1, .l), (.set1AtHl, 1, .atHl), (.set1A, 1, .a)],
    [(.set2B, 2, .b), (.set2C, 2, .c), (.set2D, 2, .d), (.set2E, 2, .e), (.set2H, 2, .h), (.set2L, 2, .l), (.set2AtHl, 2, .atHl), (.set2A, 2, .a)],
    [(.set3B, 3, .b), (.set3C, 3, .c), (.set3D, 3, .d), (.set3E, 3, .e), (.set3H, 3, .h), (.set3L, 3, .l), (.set3AtHl, 3, .atHl), (.set3A, 3, .a)],
    [(.set4B, 4, .b), (.set4C, 4, .c), (.set4D, 4, .d), (.set4E, 4, .e), (.set4H, 4, .h), (.set4L, 4, .l), (.set4AtHl, 4, .atHl), (.set4A, 4, .a)],
    [(.set5B, 5, .b), (.set5C, 5, .c), (.set5D, 5, .d), (.set5E, 5, .e), (.set5H, 5, .h), (.set5L, 5, .l), (.set5AtHl, 5, .atHl), (.set5A, 5, .a)],
    [(.set6B, 6, .b), (.set6C, 6, .c), (.set6D, 6, .d), (.set6E, 6, .e), (.set6H, 6, .h), (.set6L, 6, .l), (.set6AtHl, 6, .atHl), (.set6A, 6, .a)],
    [(.set7B, 7, .b), (.set7C, 7, .c), (.set7D, 7, .d), (.set7E, 7, .e), (.set7H, 7, .h), (.set7L, 7, .l), (.set7AtHl, 7, .atHl), (.set7A, 7, .a)]]

/-- `JP cc,a16` (46_control.md R301). -/
def jumpIfRows : List ((Word → Instr) × Cond) :=
  [(.jpNzA16, .nz), (.jpZA16, .z), (.jpNcA16, .nc), (.jpCA16, .c)]

/-- `JR cc,e8` (46_control.md R304). -/
def jumpRelIfRows : List ((Byte → Instr) × Cond) :=
  [(.jrNzE8, .nz), (.jrZE8, .z), (.jrNcE8, .nc), (.jrCE8, .c)]

/-- `CALL cc,a16` (46_control.md R306). -/
def callIfRows : List ((Word → Instr) × Cond) :=
  [(.callNzA16, .nz), (.callZA16, .z), (.callNcA16, .nc), (.callCA16, .c)]

/-- `RET cc` (46_control.md R308). -/
def returnIfRows : List (Instr × Cond) :=
  [(.retNz, .nz), (.retZ, .z), (.retNc, .nc), (.retC, .c)]

/-- `RST v`: instruction and vector (46_control.md R310). -/
def rstRows : List (Instr × Word) :=
  [(.rst00, 0x00), (.rst08, 0x08), (.rst10, 0x10), (.rst18, 0x18), (.rst20, 0x20), (.rst28, 0x28), (.rst30, 0x30), (.rst38, 0x38)]

/-- The eleven invalid opcodes (47_system.md R329). -/
def invalidRows : List (Instr × Byte) :=
  List.flatten [
    [(.invalidD3, 0xD3), (.invalidDB, 0xDB), (.invalidDD, 0xDD), (.invalidE3, 0xE3), (.invalidE4, 0xE4), (.invalidEB, 0xEB)],
    [(.invalidEC, 0xEC), (.invalidED, 0xED), (.invalidF4, 0xF4), (.invalidFC, 0xFC), (.invalidFD, 0xFD)]]

/-! ### What may change -/

/-- The registers, flags and control bits but SP and PC, the counter, the inputs and the board's fixed part are as before. -/
def SameProcessor (s t : State) : Prop :=
  (t.a = s.a ∧ t.b = s.b ∧ t.c = s.c ∧ t.d = s.d ∧ t.e = s.e ∧ t.h = s.h ∧ t.l = s.l ∧ t.f = s.f) ∧
  (t.ime = s.ime ∧ t.imePending = s.imePending ∧ t.halted = s.halted ∧ t.stopped = s.stopped ∧ t.cycles = s.cycles) ∧
  (t.dpad = s.dpad ∧ t.buttons = s.buttons ∧ t.wramBank = s.wramBank ∧ t.vramBank = s.vramBank) ∧
  (t.cart = s.cart ∧ t.params = s.params ∧ t.env = s.env)

/-- Every byte of storage is as before, the cartridge included. -/
def SameStorage (s t : State) : Prop :=
  t.vram = s.vram ∧ t.eram = s.eram ∧ t.wram = s.wram ∧ t.oam = s.oam ∧ t.hram = s.hram ∧ t.io = s.io ∧ t.ie = s.ie ∧ t.cart = s.cart

/-- At most the general registers, the flags, SP and PC differ, and every address reads as before. -/
def OnlyRegisters (s t : State) : Prop :=
  t = { s with a := t.a, b := t.b, c := t.c, d := t.d, e := t.e, h := t.h, l := t.l, f := t.f, sp := t.sp, pc := t.pc } ∧
  ∀ addr, read8 t addr = read8 s addr

/-- At most A, the flags and PC differ, PC is `n` further on, and every address reads as before. -/
def OnlyAccumulator (n : Word) (s t : State) : Prop :=
  t = { s with a := t.a, f := t.f, pc := s.pc + n } ∧ ∀ addr, read8 t addr = read8 s addr

/-- The general registers but `x` are as before. -/
def OtherRegisters (x : R8) (s t : State) : Prop := ∀ y : R8, y ≠ .atHl → y ≠ x → readR8 t y = readR8 s y

/-- The address reaches a byte of RAM: VRAM, enabled external RAM, work RAM or its echo, OAM, the I/O array, high RAM or IE. -/
def PlainRam (s : State) (addr : Word) : Prop :=
  match locate s addr with
  | .vram _ | .eram _ | .wram _ | .oam _ | .io _ | .hram _ | .ie => True
  | .rom _ | .joyp | .ppu _ | .unmapped => False

/-- The bank registers are as before. -/
def SameBanks (s t : State) : Prop :=
  t.romBank = s.romBank ∧ t.eramBank = s.eramBank ∧ t.ramEnable = s.ramEnable ∧ t.bankingMode = s.bankingMode

/-- A store to the first location leaves the second alone, whether or not an address shows it: they are different, and neither both PPU
registers, nor OAM after a store to 0xFF46, nor the selection byte `io[0]` behind 0xFF00. -/
def Apart : Loc → Loc → Prop
  | .ppu _, .ppu _ => False
  | .ppu k, .oam _ => k ≠ 0x46
  | .joyp, .io k => k ≠ 0
  | loc, loc' => loc' ≠ loc

/-- A store to `addr` does not reach the byte at `other`: they lead to locations apart. A store below 0x8000 is a bank-register write and may
change what the two banked windows show. -/
def Outside (s : State) (addr other : Word) : Prop :=
  if addr.toNat < 0x8000 then
    ¬ (0x4000 ≤ other.toNat ∧ other.toNat < 0x8000) ∧ ¬ (0xA000 ≤ other.toNat ∧ other.toNat < 0xC000)
  else Apart (locate s addr) (locate s other)

/-- A store to `addr` leaves the location alone; one below 0x8000 is a bank-register write and leaves every location alone. -/
def Untouched (s : State) (addr : Word) (loc : Loc) : Prop := 0x8000 ≤ addr.toNat → Apart (locate s addr) loc

/-- From `s` to `t` one byte `v` was stored at `addr`, and nothing else: RAM reads it back, every address outside reads as before and so
does every other element of storage in whatever bank; below 0x8000 all storage is as before, from 0x8000 on the bank registers are. -/
def ByteStored (s t : State) (addr : Word) (v : Byte) : Prop :=
  (PlainRam s addr → read8 t addr = v) ∧ (∀ other, Outside s addr other → read8 t other = read8 s other) ∧
  (∀ loc, Untouched s addr loc → readLoc t loc = readLoc s loc) ∧
  (addr.toNat < 0x8000 → SameStorage s t) ∧ (0x8000 ≤ addr.toNat → SameBanks s t)

/-- From `s` to `t` a word was stored at `addr`, its low byte at the lower address, and nothing else, in the sense of `ByteStored`. -/
def WordStored (s t : State) (addr w : Word) : Prop :=
  (PlainRam s addr → read8 t addr = w.extractLsb' 0 8) ∧ (PlainRam s (addr + 1) → read8 t (addr + 1) = w.extractLsb' 8 8) ∧
  (∀ other, Outside s addr other → Outside s (addr + 1) other → read8 t other = read8 s other) ∧
  (∀ loc, Untouched s addr loc → Untouched s (addr + 1) loc → readLoc t loc = readLoc s loc) ∧
  (addr.toNat < 0x8000 → (addr + 1).toNat < 0x8000 → SameStorage s t) ∧
  (0x8000 ≤ addr.toNat → 0x8000 ≤ (addr + 1).toNat → SameBanks s t)

/-! ### Results in plain arithmetic -/

/-- A bit as a number. -/
def bitNat (b : Bool) : Nat := if b then 1 else 0

/-- Result and flags of an 8-bit operation on A = `a` and `v` with incoming carry `c` (40_alu_primitives.md R131-R138). -/
def BinaryResult (op : AluOp) (a v : Byte) (c : Bool) (r : Byte) (f : Flags) : Prop :=
  match op with
  | .add => r.toNat = (a.toNat + v.toNat) % 256 ∧
      f = ⟨decide (r = 0), false, decide (a.toNat % 16 + v.toNat % 16 > 0xF), decide (a.toNat + v.toNat > 0xFF)⟩
  | .adc => r.toNat = (a.toNat + v.toNat + bitNat c) % 256 ∧
      f = ⟨decide (r = 0), false, decide (a.toNat % 16 + v.toNat % 16 + bitNat c > 0xF), decide (a.toNat + v.toNat + bitNat c > 0xFF)⟩
  | .sub => r.toNat = (256 + a.toNat - v.toNat) % 256 ∧
      f = ⟨decide (r = 0), true, decide (a.toNat % 16 < v.toNat % 16), decide (a.toNat < v.toNat)⟩
  | .sbc => r.toNat = (512 + a.toNat - v.toNat - bitNat c) % 256 ∧
      f = ⟨decide (r = 0), true, decide (a.toNat % 16 < v.toNat % 16 + bitNat c), decide (a.toNat < v.toNat + bitNat c)⟩
  | .and => (∀ k < 8, r.getLsbD k = (a.getLsbD k && v.getLsbD k)) ∧ f = ⟨decide (r = 0), false, true, false⟩
  | .xor => (∀ k < 8, r.getLsbD k = (a.getLsbD k != v.getLsbD k)) ∧ f = ⟨decide (r = 0), false, false, false⟩
  | .or => (∀ k < 8, r.getLsbD k = (a.getLsbD k || v.getLsbD k)) ∧ f = ⟨decide (r = 0), false, false, false⟩
  | .cp => r = a ∧ f = ⟨decide (a = v), true, decide (a.toNat % 16 < v.toNat % 16), decide (a.toNat < v.toNat)⟩

/-- Result and flags of a CB rotate or shift of `v` with incoming carry `c` (40_alu_primitives.md R149-R156). -/
def RotateResult (op : RotOp) (v : Byte) (c : Bool) (r : Byte) (f : Flags) : Prop :=
  f.z = decide (r = 0) ∧ f.n = false ∧ f.h = false ∧
  match op with
  | .rlc => r.toNat = v.toNat * 2 % 256 + v.toNat / 128 ∧ f.c = decide (128 ≤ v.toNat)
  | .rrc => r.toNat = v.toNat / 2 + v.toNat % 2 * 128 ∧ f.c = decide (v.toNat % 2 = 1)
  | .rl => r.toNat = v.toNat * 2 % 256 + bitNat c ∧ f.c = decide (128 ≤ v.toNat)
  | .rr => r.toNat = v.toNat / 2 + bitNat c * 128 ∧ f.c = decide (v.toNat % 2 = 1)
  | .sla => r.toNat = v.toNat * 2 % 256 ∧ f.c = decide (128 ≤ v.toNat)
  | .sra => r.toNat = v.toNat / 2 + v.toNat / 128 * 128 ∧ f.c = decide (v.toNat % 2 = 1)
  | .swap => r.toNat = v.toNat % 16 * 16 + v.toNat / 16 ∧ f.c = false
  | .srl => r.toNat = v.toNat / 2 ∧ f.c = decide (v.toNat % 2 = 1)

/-- Result and flags of `INC` of an 8-bit operand (40_alu_primitives.md R139). -/
def IncResult (v : Byte) (f : Flags) (r : Byte) (g : Flags) : Prop :=
  r.toNat = (v.toNat + 1) % 256 ∧ g = ⟨decide (r = 0), false, decide (v.toNat % 16 = 0xF), f.c⟩

/-- The same for `DEC` (40_alu_primitives.md R140). -/
def DecResult (v : Byte) (f : Flags) (r : Byte) (g : Flags) : Prop :=
  r.toNat = (v.toNat + 255) % 256 ∧ g = ⟨decide (r = 0), true, decide (v.toNat % 16 = 0), f.c⟩

/-- The result of `RES n` (40_alu_primitives.md R158): the bit's value taken away, no flag written. -/
def ResResult (n : Fin 8) (v : Byte) (f : Flags) (r : Byte) (g : Flags) : Prop :=
  r.toNat = v.toNat - v.toNat / 2 ^ n.val % 2 * 2 ^ n.val ∧ g = f

/-- The result of `SET n` (40_alu_primitives.md R159): the bit's value added where it was 0, no flag written. -/
def SetResult (n : Fin 8) (v : Byte) (f : Flags) (r : Byte) (g : Flags) : Prop :=
  r.toNat = v.toNat + (1 - v.toNat / 2 ^ n.val % 2) * 2 ^ n.val ∧ g = f

/-- The adjustment of `DAA` for A = `a` and flags N, H, C (40_alu_primitives.md R145). -/
def daaAdjust (a : Nat) (n h c : Bool) : Nat :=
  (if h = true ∨ (n = false ∧ a % 16 > 0x09) then 0x06 else 0) + (if c = true ∨ (n = false ∧ a > 0x99) then 0x60 else 0)

/-- A signed displacement as a number modulo 65536 (00_scope.md R12). -/
def displacement (e : Byte) : Nat := if e.toNat < 0x80 then e.toNat else e.toNat + 0xFF00

/-- Result and flags of SP plus a signed displacement (40_alu_primitives.md R142). -/
def AddSpResult (sp : Word) (e : Byte) (r : Word) (f : Flags) : Prop :=
  r.toNat = (sp.toNat + displacement e) % 65536 ∧
  f = ⟨false, false, decide (sp.toNat % 16 + e.toNat % 16 > 0xF), decide (sp.toNat % 256 + e.toNat > 0xFF)⟩

/-! ### Forms of one shape -/

/-- `i`, `n` bytes long, is an 8-bit operation of A with the value `v`. -/
def Operates (op : AluOp) (i : Instr) (n : Word) (v : State → Byte) : Prop :=
  ∀ s, ∃ t, exec i s = .next t ∧ BinaryResult op s.a (v s) s.f.c t.a t.f ∧ OnlyAccumulator n s t

/-- `i`, `n` bytes long, loads A from the address. -/
def LoadsA (i : Instr) (n : Word) (addr : State → Word) : Prop :=
  ∀ s, ∃ t, exec i s = .next t ∧ t.a = read8 s (addr s) ∧ t.f = s.f ∧ OnlyAccumulator n s t

/-- `i`, `n` bytes long, stores one byte and changes nothing else but PC: the state after is that of `write8`, PC apart, whatever lies at
the address (a bank register, 0xFF00 and 0xFF46 included). -/
def StoresByte (i : Instr) (n : Word) (addr : State → Word) (v : State → Byte) : Prop :=
  ∀ s, s.memoryOk = true → ∃ t, exec i s = .next t ∧ ByteStored s t (addr s) (v s) ∧ SameProcessor s t ∧ t.sp = s.sp ∧ t.pc = s.pc + n ∧
    t = { write8 s (addr s) (v s) with pc := s.pc + n }

/-- `i` stores the word at SP - 2, lowers SP by 2, goes to the target and changes nothing else. -/
def Pushes (i : Instr) (s : State) (w target : Word) : Prop :=
  ∃ t, exec i s = .next t ∧ t.pc = target ∧ t.sp = s.sp - 2 ∧ WordStored s t (s.sp - 2) w ∧ SameProcessor s t ∧
    t = { write16 s (s.sp - 2) w with sp := s.sp - 2, pc := target }

/-- `i`, `n` bytes long, pushes the address after it, goes to the target and changes nothing else. -/
def CallsTo (i : Instr) (s : State) (n target : Word) : Prop := Pushes i s (s.pc + n) target

/-- `i`, one byte long, stores A at HL, moves HL by `delta` modulo 65536, and changes nothing else but PC. -/
def StoresAndMoves (i : Instr) (delta : Nat) : Prop :=
  ∀ s, s.memoryOk = true → ∃ t, exec i s = .next t ∧ ByteStored s t s.hl s.a ∧ t.hl.toNat = (s.hl.toNat + delta) % 65536 ∧
    SameProcessor s { t with h := s.h, l := s.l } ∧ t.sp = s.sp ∧ t.pc = s.pc + 1 ∧
    t = { write8 s s.hl s.a with h := t.h, l := t.l, pc := s.pc + 1 }

/-- `i` changes PC, to the target, and nothing else. -/
def GoesTo (i : Instr) (s : State) (target : Word) : Prop :=
  ∃ t, exec i s = .next t ∧ t = { s with pc := target } ∧ ∀ addr, read8 t addr = read8 s addr

/-- `i` pops PC from the stack and changes nothing else. -/
def Returns (i : Instr) (s : State) : Prop :=
  ∃ t, exec i s = .next t ∧ t.pc.toNat = (read8 s (s.sp + 1)).toNat * 256 + (read8 s s.sp).toNat ∧ t.sp = s.sp + 2 ∧
    t = { s with pc := t.pc, sp := t.sp } ∧ ∀ addr, read8 t addr = read8 s addr

/-- An 8-bit operand that is a register is replaced by a result; `result` says how it and the flags come from the value and the flags before; `n` bytes. -/
def ReplacesRegister (i : Instr) (n : Word) (x : R8) (result : Byte → Flags → Byte → Flags → Prop) : Prop :=
  ∀ s, ∃ t, exec i s = .next t ∧ result (readR8 s x) s.f (readR8 t x) t.f ∧ OtherRegisters x s t ∧ t.sp = s.sp ∧
    t.pc = s.pc + n ∧ OnlyRegisters s t

/-- The byte at HL is replaced by a result; `result` says how it and the flags come from the value and the flags before; `n` bytes. -/
def ReplacesAtHl (i : Instr) (n : Word) (result : Byte → Flags → Byte → Flags → Prop) : Prop :=
  ∀ s, s.memoryOk = true → ∃ t r, exec i s = .next t ∧ result (read8 s s.hl) s.f r t.f ∧ ByteStored s t s.hl r ∧
    SameProcessor s { t with f := s.f } ∧ t.sp = s.sp ∧ t.pc = s.pc + n ∧ t = { write8 s s.hl r with f := t.f, pc := s.pc + n }

/-- An 8-bit operand, register or the byte at HL, is replaced by a result. -/
def Replaces (i : Instr) (n : Word) (x : R8) (result : Byte → Flags → Byte → Flags → Prop) : Prop :=
  (x ≠ .atHl → ReplacesRegister i n x result) ∧ (x = .atHl → ReplacesAtHl i n result)

/-- The eleven invalid opcode bytes (30_encoding.md R108). -/
def invalidBytes : List Byte := [0xD3, 0xDB, 0xDD, 0xE3, 0xE4, 0xEB, 0xEC, 0xED, 0xF4, 0xFC, 0xFD]

/-- One flag after an instruction, by its effect: `old` before, `new` after. -/
def FlagObeys : FlagEffect → Bool → Bool → Prop
  | .preserved, old, new => new = old
  | .written, _, _ => True
  | .cleared, _, new => new = false
  | .set, _, new => new = true

/-- Two sets of flags agree on the flags named. -/
def AgreeOn (names : List FlagName) (f g : Flags) : Prop :=
  (.z ∈ names → f.z = g.z) ∧ (.n ∈ names → f.n = g.n) ∧ (.h ∈ names → f.h = g.h) ∧ (.c ∈ names → f.c = g.c)

/-- A flag that an instruction preserves, from one run; any other, from the other run. -/
def flagFrom (effect : FlagEffect) (kept computed : Bool) : Bool :=
  match effect with
  | .preserved => kept
  | .written | .cleared | .set => computed

/-- The flags after an instruction that began with flags `g`, when from others it computed `f`. -/
def flagsFrom (e : FlagEffects) (g f : Flags) : Flags :=
  ⟨flagFrom e.z g.z f.z, flagFrom e.n g.n f.n, flagFrom e.h g.h f.h, flagFrom e.c g.c f.c⟩

/-- The loop of HALT in `s` after `k` Ticks that all found no pending request: `halted` is 1, PC is the next address, and every Tick has
counted, moved the environment and promoted with the `ime_pending` of the step's start (47_system.md R323, 60_exceptions.md R390). -/
def waiting (s : State) : Nat → State
  | 0 => { s with pc := s.pc + 1, halted := true }
  | k + 1 => promote s.imePending (envStep { waiting s k with cycles := (waiting s k).cycles + s.params.haltTickQuantum })

/-- HALT has waited from `s` to `e`, one Tick at least: PC is the next address, a pending enable has been promoted to IME, and but for
`halted`, `stopped`, the count and what the environment moves nothing else has changed: registers, flags, SP, IE, the bank registers, the
board and all memory but the I/O array are as before. -/
def HasWaited (s e : State) : Prop :=
  e = { s with pc := s.pc + 1, ime := s.ime || s.imePending, imePending := false, halted := e.halted, stopped := e.stopped,
               cycles := e.cycles, io := e.io, dpad := e.dpad, buttons := e.buttons, env := e.env, ppuEpoch := e.ppuEpoch }

/-- The open parameters of reset are memories in canonical form within their sizes. -/
def ParamsOk (o : OpenParams) : Prop :=
  o.cart.rom.wf = true ∧ o.cart.rom.within o.cart.romSize = true ∧ o.vram.wf = true ∧ o.vram.within 0x4000 = true ∧
  o.eram.wf = true ∧ o.eram.within o.cart.eramSize = true ∧ o.wram.wf = true ∧ o.wram.within 0x8000 = true ∧
  o.oam.wf = true ∧ o.oam.within 160 = true ∧ o.hram.wf = true ∧ o.hram.within 127 = true ∧
  o.ioReset.wf = true ∧ o.ioReset.within 128 = true

end Sys2Proof.Stmt

section ObligationStatements
open Sys2Proof Sys2Proof.Machine Sys2Proof.Stmt

/-- Decoding the encoding of any well-formed instruction gives it back. Formalises 30_encoding.md sections 1, 2 and 3. -/
def Obligations.DecodeOfEncodeIsTheInstruction : Prop :=
  ∀ (i : Instr) (rest : List Byte), i.wellFormed = true → decode (encode i ++ rest) = .ok (i, rest)

/-- What the decoder reads is well-formed and encodes to the very bytes read. Formalises 30_encoding.md sections 1 and 7. -/
def Obligations.EncodeOfDecodeIsTheBytes : Prop :=
  ∀ bytes : List Byte,
    (∀ i rest, decode bytes = .ok (i, rest) → i.wellFormed = true ∧ encode i ++ rest = bytes ∧
      (encode i).length = i.form.length ∧ 1 ≤ i.form.length ∧ i.form.length ≤ 3) ∧
    (∀ op tail, bytes = op :: tail → opLength op ≤ bytes.length → ∃ i rest, decode bytes = .ok (i, rest))

/-- Words written out from the encoding tables decode to the instructions they stand for. Formalises 30_encoding.md sections 2, 3 and 4.
-/
def Obligations.SpecWordsDecode : Prop :=
  decode [0x00] = .ok (.nop, []) ∧
  decode [0x01, 0x34, 0x12] = .ok (.ldBcD16 0x1234, []) ∧
  decode [0xC3, 0x50, 0x01] = .ok (.jpA16 0x0150, []) ∧
  decode [0x36, 0xFF] = .ok (.ldAtHlD8 0xFF, []) ∧
  decode [0x85] = .ok (.addAL, []) ∧
  decode [0x20, 0xFC] = .ok (.jrNzE8 0xFC, []) ∧
  decode [0xCB, 0x37] = .ok (.swapA, []) ∧
  decode [0xCB, 0x7C] = .ok (.bit7H, []) ∧
  decode [0xCB, 0xC6] = .ok (.set0AtHl, []) ∧
  decode [0xFF] = .ok (.rst38, []) ∧
  decode [0x10, 0x00] = .ok (.stop 0x00, []) ∧
  decode [0x76] = .ok (.halt, []) ∧
  decode [0xD3] = .ok (.invalidD3, [])

/-- The eleven invalid opcodes decode to INVALID records, and executing one is the trap. Formalises R108, R380, 30_encoding.md section 7.
That the trap is a terminal fault is the spec's choice (R380, D7). -/
def Obligations.InvalidBytesDecodeAsInvalid : Prop :=
  ∀ op ∈ invalidBytes, ∀ rest : List Byte, ∃ i, decode (op :: rest) = .ok (i, rest) ∧ i.form.cls = .INVALID ∧
    i.form.length = 1 ∧ i.form.successor = .invalid ∧ i.form.operands = [] ∧ (∀ next, i.form.targets next = []) ∧
    ∀ s, exec i s = .fault (.invalidOpcode s.pc op)

/-- Apart from the eleven invalid bytes every byte begins a defined instruction, and every CB second byte is one. Formalises
30_encoding.md section 5, 00_scope.md section 4 (R8), 20_memory.md section 3 (R71), 60_exceptions.md section 1 (R382). For HALT with a
quantum of 0 that rests on log 17, the model's choice. -/
def Obligations.EveryOtherByteIsAnInstruction : Prop :=
  ∀ (op : Byte) (tail rest : List Byte) (i : Instr), decode (op :: tail) = .ok (i, rest) → op ∉ invalidBytes →
    i.form.cls ≠ .INVALID ∧ ∀ s, ∃ t, exec i s = .next t

/-- When the bytes at PC encode a well-formed instruction, the step is its exec followed by its Tick. Formalises 47_system.md section 1.
-/
def Obligations.StepRunsTheDecodedInstruction : Prop :=
  ∀ (s : State) (i : Instr), s.stopped = false → i.wellFormed = true → s.pc.toNat + i.form.length ≤ 0x10000 →
    (∀ k < i.form.length, (encode i)[k]? = some (read8 s (s.pc + BitVec.ofNat 16 k))) →
    step s = match exec i s with
      | .next t => .next (if i = .halt then t else tick (i.form.tickCycles s.f) s.imePending t)
      | .fault e => .fault e
      | .refused r => .refused r

/-- Each of the eleven invalid instructions ends in the fault InvalidOpcode. Formalises 47_system.md section 2, 60_exceptions.md section
1. -/
def Obligations.InvalidOpcodesFault : Prop :=
  ∀ row ∈ invalidRows, ∀ s, exec row.1 s = .fault (.invalidOpcode s.pc row.2)

/-- A step faults or is refused exactly where the spec says, and nowhere else. Formalises R380, R381, R382, R326, 47_system.md section 1.
That the two are terminal faults is the decision of the spec (R380 with D7, R381 with D6); that a stopped core is answered by a refusal is
the model's reading of R326, log 13; that HALT with a quantum of 0 answers a next state is the model's choice, log 17. -/
def Obligations.StepStopsExactlyWhere : Prop :=
  ∀ s : State,
    (∀ a op, step s = .fault (.invalidOpcode a op) ↔
      s.stopped = false ∧ a = s.pc ∧ op = read8 s s.pc ∧ op ∈ invalidBytes) ∧
    (∀ a, step s = .fault (.fetchWrap a) ↔ s.stopped = false ∧ a = s.pc ∧ 0x10000 < s.pc.toNat + opLength (read8 s s.pc)) ∧
    (∀ r, step s = .refused r ↔ s.stopped = true ∧ r = .stopped) ∧
    (s.stopped = false → read8 s s.pc ∉ invalidBytes → s.pc.toNat + opLength (read8 s s.pc) ≤ 0x10000 → ∃ t, step s = .next t)

/-- Every step keeps the invariant: halted is 0, the CGB banks are fixed, the bank registers are in range, the memories are canonical.
Formalises 10_state.md sections 4 and 5, 20_memory.md section 3, 47_system.md section 2. -/
def Obligations.StepKeepsInv : Prop :=
  ∀ s t : State, s.Inv → step s = .next t → t.Inv

/-- The state after reset meets the invariant, for every value of the open parameters. Formalises 70_reset_and_hazards.md section 1. -/
def Obligations.ResetMeetsInv : Prop :=
  (∀ o : OpenParams, ParamsOk o → (State.resetFrom o).Inv) ∧ State.reset.Inv

/-- Reset leaves the registers, the control bits, the bank registers and the nine I/O bytes the spec lists. Formalises
70_reset_and_hazards.md section 1. Control, bank and joypad values are the decisions D12, D13, D23 of the spec. -/
def Obligations.ResetValues : Prop :=
  ∀ o : OpenParams, ∀ s, s = State.resetFrom o →
    (s.a = 0x01 ∧ s.f.pack = 0xB0 ∧ s.bc = 0x0013 ∧ s.de = 0x00D8 ∧ s.hl = 0x014D ∧ s.sp = 0xFFFE ∧ s.pc = 0x0100) ∧
    (s.f = ⟨true, false, true, true⟩ ∧ s.b = 0x00 ∧ s.c = 0x13 ∧ s.d = 0x00 ∧ s.e = 0xD8 ∧ s.h = 0x01 ∧ s.l = 0x4D) ∧
    (s.ime = false ∧ s.imePending = false ∧ s.halted = false ∧ s.stopped = false ∧ s.cycles = 0) ∧
    (s.romBank = 1 ∧ s.eramBank = 0 ∧ s.wramBank = 1 ∧ s.vramBank = 0 ∧ s.ramEnable = false ∧ s.bankingMode = false) ∧
    (s.dpad = 0xFF ∧ s.buttons = 0xFF) ∧
    (o.ioReset.wf = true → Memory.read s.io 0x00 = 0xCF ∧ Memory.read s.io 0x04 = 0xAB ∧ Memory.read s.io 0x07 = 0xF8 ∧
      s.ifByte = 0xE1 ∧ Memory.read s.io 0x40 = 0x91 ∧ Memory.read s.io 0x41 = 0x85 ∧ Memory.read s.io 0x47 = 0xFC ∧
      Memory.read s.io 0x48 = 0xFF ∧ Memory.read s.io 0x49 = 0xFF)

/-- At a step boundary no enabled request waits while IME is set: it has been dispatched. Formalises 60_exceptions.md section 2. -/
def Obligations.NoEnabledRequestOutlivesAStep : Prop :=
  ∀ s t : State, step s = .next t → t.ime = true → t.pending = 0

/-- Running an instruction's IR, Tick included, gives what its rule and its Tick give. Formalises 49_ir_lowering.md sections 2 and 3. -/
def Obligations.IrGivesTheInstructionRules : Prop :=
  ∀ (i : Instr) (s : State), execViaIr i s = retire i s (exec i s)

/-- After an instruction PC is at one of the record's static targets, or the record says dynamic. Formalises 30_encoding.md section 7. -/
def Obligations.ControlGoesWhereTheRecordSays : Prop :=
  ∀ (i : Instr) (s t : State), exec i s = .next t →
    match i.form.successor with
    | .fallthrough => t.pc = s.pc + BitVec.ofNat 16 i.form.length
    | .stop => t.pc = s.pc + BitVec.ofNat 16 i.form.length ∧ t.stopped = true
    | .halt => t.pc = s.pc + 1 ∨ ∃ k < 5, t.pc.toNat = 0x40 + 8 * k
    | .invalid => False
    | .unconditionalJump | .conditionalJump | .call | .ret | .rst =>
      .addr t.pc ∈ i.form.targets (s.pc + BitVec.ofNat 16 i.form.length) ∨
      .dynamic ∈ i.form.targets (s.pc + BitVec.ofNat 16 i.form.length)

/-- Every instruction changes the four flags only as the record's flag effects say. Formalises 30_encoding.md section 7, 10_state.md
section 2. -/
def Obligations.FlagsChangeAsTheRecordSays : Prop :=
  ∀ (i : Instr) (s t : State), exec i s = .next t →
    FlagObeys i.form.flagEffects.z s.f.z t.f.z ∧ FlagObeys i.form.flagEffects.n s.f.n t.f.n ∧
    FlagObeys i.form.flagEffects.h s.f.h t.f.h ∧ FlagObeys i.form.flagEffects.c s.f.c t.f.c

/-- An instruction's outcome depends on no flag but those its record lists as read. Formalises 30_encoding.md section 7. -/
def Obligations.FlagsNotReadDoNotMatter : Prop :=
  ∀ (i : Instr) (s : State) (g : Flags), AgreeOn i.form.flagsRead s.f g →
    match exec i s with
    | .next t => exec i { s with f := g } = .next { t with f := flagsFrom i.form.flagEffects g t.f }
    | .fault e => exec i { s with f := g } = .fault e
    | .refused r => exec i { s with f := g } = .refused r

/-- Only DI and RETI write IME, only DI, EI and RETI write ime_pending, only STOP sets stopped. Formalises 10_state.md section 4,
47_system.md section 2, 46_control.md section 2. -/
def Obligations.ImeIsWrittenOnlyByDiEiReti : Prop :=
  ∀ (i : Instr) (s t : State), i ≠ .halt → exec i s = .next t →
    (t.ime = if i = .di then false else if i = .reti then true else s.ime) ∧
    (t.imePending = if i = .di then false else if i = .ei then true else if i = .reti then false else s.imePending) ∧
    (t.stopped = if i.form.successor = .stop then true else s.stopped) ∧ t.halted = s.halted

/-- No step changes the cartridge image, the parameters or the CGB banks. Formalises 20_memory.md section 3, 10_state.md sections 4 and 6.
-/
def Obligations.NoStepWritesTheCartridge : Prop :=
  ∀ s t : State, step s = .next t →
    t.cart = s.cart ∧ t.params = s.params ∧ t.wramBank = s.wramBank ∧ t.vramBank = s.vramBank

/-- A step advances cycles by the instruction's count, and by the dispatch charge when an interrupt is taken. Formalises 60_exceptions.md
sections 2 and 4, 70_reset_and_hazards.md section 3. The counts of the Ticks are the spec's, from general knowledge (D26). -/
def Obligations.StepCountsItsCycles : Prop :=
  ∀ (s t : State) (i : Instr), step s = .next t → fetch s = .ok i → i ≠ .halt →
    t.cycles = s.cycles + i.form.tickCycles s.f ∨
    (t.cycles = s.cycles + i.form.tickCycles s.f + s.params.intDispatchCycles ∧ t.ime = false ∧ ∃ k < 5, t.pc.toNat = 0x40 + 8 * k)

/-- A byte written to RAM reads back, every other element in every bank and the bank registers are as before, and a bank-register write
stores nothing. Formalises 20_memory.md sections 1 and 2. -/
def Obligations.WriteThenRead : Prop :=
  ∀ (s : State) (addr : Word) (v : Byte), s.memoryOk = true →
    ByteStored s (write8 s addr v) addr v ∧ SameProcessor s (write8 s addr v) ∧
    (write8 s addr v).sp = s.sp ∧ (write8 s addr v).pc = s.pc

/-- Reads and writes at 0xE000 to 0xFDFF are reads and writes 0x2000 lower. Formalises 20_memory.md section 2. -/
def Obligations.EchoForwards : Prop :=
  ∀ (s : State) (addr : Word) (v : Byte), 0xE000 ≤ addr.toNat → addr.toNat < 0xFE00 →
    read8 s addr = read8 s (addr - 0x2000) ∧ write8 s addr v = write8 s (addr - 0x2000) v

/-- 0xFEA0 to 0xFEFF read 0xFF and ignore writes. Formalises R59 (quoted in OBLIGATIONS.json). -/
def Obligations.UnusableRangeReadsFFAndIgnoresWrites : Prop :=
  ∀ (s : State) (addr : Word) (v : Byte), 0xFEA0 ≤ addr.toNat → addr.toNat ≤ 0xFEFF →
    read8 s addr = 0xFF ∧ write8 s addr v = s

/-- 0xFFFF reads and writes IE, which no other address reaches. Formalises R65 (quoted in OBLIGATIONS.json). -/
def Obligations.IeIsItsOwnByte : Prop :=
  ∀ (s : State) (v : Byte), read8 s 0xFFFF = s.ie ∧ write8 s 0xFFFF v = { s with ie := v } ∧
    ∀ addr : Word, addr ≠ 0xFFFF → read8 (write8 s 0xFFFF v) addr = read8 s addr ∧ ∀ w, (write8 s addr w).ie = s.ie

/-- VRAM, work RAM, OAM, the I/O array with IF, and high RAM read and write the element that the map gives the address. Formalises
20_memory.md section 2. That nothing changes the two CGB banks is the decision D13 of the spec. -/
def Obligations.RamRegionsArePlainStorage : Prop :=
  ∀ (s : State) (addr : Word) (v : Byte),
    (0x8000 ≤ addr.toNat → addr.toNat ≤ 0x9FFF →
      read8 s addr = Memory.read s.vram (s.vramBank.toNat * 0x2000 + (addr.toNat - 0x8000)) ∧
      write8 s addr v = { s with vram := Memory.write s.vram (s.vramBank.toNat * 0x2000 + (addr.toNat - 0x8000)) v }) ∧
    (0xC000 ≤ addr.toNat → addr.toNat ≤ 0xCFFF →
      read8 s addr = Memory.read s.wram (addr.toNat - 0xC000) ∧
      write8 s addr v = { s with wram := Memory.write s.wram (addr.toNat - 0xC000) v }) ∧
    (0xD000 ≤ addr.toNat → addr.toNat ≤ 0xDFFF →
      read8 s addr = Memory.read s.wram (s.wramBank.toNat * 0x1000 + (addr.toNat - 0xD000)) ∧
      write8 s addr v = { s with wram := Memory.write s.wram (s.wramBank.toNat * 0x1000 + (addr.toNat - 0xD000)) v }) ∧
    (0xFE00 ≤ addr.toNat → addr.toNat ≤ 0xFE9F →
      read8 s addr = Memory.read s.oam (addr.toNat - 0xFE00) ∧
      write8 s addr v = { s with oam := Memory.write s.oam (addr.toNat - 0xFE00) v }) ∧
    ((0xFF01 ≤ addr.toNat ∧ addr.toNat ≤ 0xFF3F) ∨ (0xFF4C ≤ addr.toNat ∧ addr.toNat ≤ 0xFF7F) →
      read8 s addr = Memory.read s.io (addr.toNat - 0xFF00) ∧
      write8 s addr v = { s with io := Memory.write s.io (addr.toNat - 0xFF00) v }) ∧
    (read8 s 0xFF0F = s.ifByte ∧ write8 s 0xFF0F v = s.setIf v) ∧
    (0xFF80 ≤ addr.toNat → addr.toNat ≤ 0xFFFE →
      read8 s addr = Memory.read s.hram (addr.toNat - 0xFF80) ∧
      write8 s addr v = { s with hram := Memory.write s.hram (addr.toNat - 0xFF80) v })

/-- The ROM windows show the image by bank, and external RAM answers only when enabled and inside its size. Formalises 20_memory.md
section 2, 20_memory.md section 3 (R70). The 0xFF and the ignored write are the decision D19 of the spec; that eram_bank of 8 or more
selects a clock register on MBC3, whatever ERAM_SIZE is, is R70 as log 15 reads it. -/
def Obligations.RomAndExternalRamWindows : Prop :=
  ∀ (s : State) (addr : Word) (v : Byte),
    (addr.toNat < 0x4000 → read8 s addr = if addr.toNat < s.cart.romSize then Memory.read s.cart.rom addr.toNat else 0xFF) ∧
    (0x4000 ≤ addr.toNat → addr.toNat < 0x8000 → read8 s addr =
      if s.romBank.toNat * 0x4000 + (addr.toNat - 0x4000) < s.cart.romSize
      then Memory.read s.cart.rom (s.romBank.toNat * 0x4000 + (addr.toNat - 0x4000)) else 0xFF) ∧
    (0xA000 ≤ addr.toNat → addr.toNat < 0xC000 →
      if s.ramEnable = true ∧ s.eramBank.toNat * 0x2000 + (addr.toNat - 0xA000) < s.cart.eramSize ∧
          ¬ (s.cart.mbc = .mbc3 ∧ 8 ≤ s.eramBank.toNat)
      then read8 s addr = Memory.read s.eram (s.eramBank.toNat * 0x2000 + (addr.toNat - 0xA000)) ∧
        write8 s addr v = { s with eram := Memory.write s.eram (s.eramBank.toNat * 0x2000 + (addr.toNat - 0xA000)) v }
      else read8 s addr = 0xFF ∧ write8 s addr v = s)

/-- A read of 0xFF00 shows the selected key rows, active low; a write stores the selection byte. Formalises 60_exceptions.md section 4,
20_memory.md section 2. The formula is the spec's, from general knowledge (D23). -/
def Obligations.JoypadRegisterReads : Prop :=
  ∀ (s : State) (v : Byte),
    (read8 s 0xFF00).getLsbD 7 = true ∧ (read8 s 0xFF00).getLsbD 6 = true ∧
    (read8 s 0xFF00).getLsbD 5 = (Memory.read s.io 0x00).getLsbD 5 ∧
    (read8 s 0xFF00).getLsbD 4 = (Memory.read s.io 0x00).getLsbD 4 ∧
    (∀ k < 4, (read8 s 0xFF00).getLsbD k = false ↔
      ((Memory.read s.io 0x00).getLsbD 4 = false ∧ s.dpad.getLsbD k = false) ∨
      ((Memory.read s.io 0x00).getLsbD 5 = false ∧ s.buttons.getLsbD k = false)) ∧
    write8 s 0xFF00 v = { s with io := Memory.write s.io 0x00 v }

/-- A write below 0x8000 changes bank registers only, never the image or any storage. Formalises R66, R52, R53, 20_memory.md sections 2
and 3. The image is as before, so a later read of the address returns image contents under the bank then selected (R52, R53), or 0xFF past
the end of the image, which is the decision D19 of the spec. -/
def Obligations.BankRegisterWritesStoreNothing : Prop :=
  ∀ (s : State) (addr : Word) (v : Byte), addr.toNat < 0x8000 → ∀ t, t = write8 s addr v →
    t = { s with romBank := t.romBank, eramBank := t.eramBank, ramEnable := t.ramEnable, bankingMode := t.bankingMode } ∧
    t.cart.rom = s.cart.rom ∧
    read8 t addr = (let k := if addr.toNat < 0x4000 then addr.toNat else t.romBank.toNat * 0x4000 + (addr.toNat - 0x4000)
      if k < s.cart.romSize then Memory.read s.cart.rom k else 0xFF)

/-- What a write below 0x8000 does to the bank registers, for each MBC kind. Formalises 20_memory.md section 3. The rules for the upper
MBC1 bits, MBC2, the masks of MBC3 and MBC5 and eram_bank are the decision D24 of the spec; that an MBC2 write sets rom_bank to its 4-bit
bank alone, in every state, is R69 as log 14 reads it. -/
def Obligations.BankRegisterRules : Prop :=
  ∀ (s : State) (addr : Word) (v : Byte), addr.toNat < 0x8000 → ∀ t, t = write8 s addr v →
    (s.cart.mbc = .none → t = s) ∧
    (addr.toNat < 0x2000 → s.cart.mbc ≠ .none → t = { s with ramEnable := decide (v.toNat % 16 = 0xA) }) ∧
    (0x2000 ≤ addr.toNat → addr.toNat < 0x4000 → s.cart.mbc ≠ .none → t = { s with romBank := t.romBank } ∧
      (s.cart.mbc = .mbc1 → t.romBank.toNat = s.romBank.toNat / 32 % 4 * 32 + max 1 (v.toNat % 32)) ∧
      (s.cart.mbc = .mbc2 → t.romBank.toNat = max 1 (v.toNat % 16)) ∧
      (s.cart.mbc = .mbc3 → t.romBank.toNat = max 1 (v.toNat % 128)) ∧
      (s.cart.mbc = .mbc5 → t.romBank.toNat = v.toNat)) ∧
    (0x4000 ≤ addr.toNat → addr.toNat < 0x6000 →
      (s.cart.mbc = .mbc1 → s.bankingMode = false →
        t = { s with romBank := t.romBank } ∧ t.romBank.toNat = v.toNat % 4 * 32 + s.romBank.toNat % 32) ∧
      (s.cart.mbc = .mbc1 → s.bankingMode = true → t = { s with eramBank := t.eramBank } ∧ t.eramBank.toNat = v.toNat % 4) ∧
      (s.cart.mbc = .mbc2 → t = s) ∧
      (s.cart.mbc = .mbc3 ∨ s.cart.mbc = .mbc5 → t = { s with eramBank := t.eramBank } ∧ t.eramBank.toNat = v.toNat % 16)) ∧
    (0x6000 ≤ addr.toNat →
      (s.cart.mbc = .mbc1 → t = { s with bankingMode := decide (v.toNat % 2 = 1) }) ∧ (s.cart.mbc ≠ .mbc1 → t = s))

/-- A write of v to 0xFF46 copies the 160 bytes from v * 0x100 on to OAM at once. Formalises 20_memory.md section 6. The counter ppuEpoch,
which moves on by 1, is the model's own: it makes the PPU's next answers free again (log 7). That the source is read through the normal
routing is the decision D27 of the spec. -/
def Obligations.OamDmaCopiesAPage : Prop :=
  ∀ (s : State) (v : Byte), s.memoryOk = true →
    (∀ k < 160, read8 (write8 s 0xFF46 v) (BitVec.ofNat 16 (0xFE00 + k)) = read8 s (BitVec.ofNat 16 (v.toNat * 0x100 + k))) ∧
    (∀ addr : Word, ¬ (0xFE00 ≤ addr.toNat ∧ addr.toNat ≤ 0xFE9F) → ¬ (0xFF40 ≤ addr.toNat ∧ addr.toNat ≤ 0xFF4B) →
      read8 (write8 s 0xFF46 v) addr = read8 s addr) ∧
    write8 s 0xFF46 v = { s with oam := (write8 s 0xFF46 v).oam, ppuEpoch := s.ppuEpoch + 1 }

/-- pop16 reads the little-endian word at SP and raises SP by 2; after push16(v) it gives v and restores SP. Formalises R75 (quoted in
OBLIGATIONS.json). -/
def Obligations.PushThenPopRestores : Prop :=
  ∀ (s : State) (v : Word),
    ((popWord s).toNat = (read8 s (s.sp + 1)).toNat * 256 + (read8 s s.sp).toNat ∧ popState s = { s with sp := s.sp + 2 }) ∧
    (s.memoryOk = true → PlainRam s (s.sp - 2) → PlainRam s (s.sp - 1) →
      popWord (push16 s v) = v ∧ (popState (push16 s v)).sp = s.sp)

/-- With IME set and an enabled request the check enters the lowest-numbered one's handler; otherwise it changes nothing. Formalises
60_exceptions.md section 2. -/
def Obligations.InterruptCheckDispatchesOne : Prop :=
  ∀ s : State, s.memoryOk = true →
    (¬ (s.ime = true ∧ s.pending ≠ 0) → checkInterrupt s = s) ∧
    (s.ime = true → s.pending ≠ 0 → ∃ i < 5, s.pending.getLsbD i = true ∧ (∀ j < i, s.pending.getLsbD j = false) ∧
      ∀ t, t = checkInterrupt s →
        t.pc.toNat = 0x40 + 8 * i ∧ t.sp = s.sp - 2 ∧ t.ime = false ∧ t.halted = false ∧
        t.cycles = s.cycles + s.params.intDispatchCycles ∧ t.imePending = s.imePending ∧
        SameProcessor s { t with ime := s.ime, halted := s.halted, cycles := s.cycles } ∧
        (PlainRam s (s.sp - 2) → read8 t (s.sp - 2) = s.pc.extractLsb' 0 8) ∧
        (PlainRam s (s.sp - 1) → read8 t (s.sp - 1) = s.pc.extractLsb' 8 8) ∧
        (∀ other, other ≠ 0xFF0F → Outside s (s.sp - 2) other → Outside s (s.sp - 1) other → read8 t other = read8 s other) ∧
        (s.sp - 2 ≠ 0xFF0F → s.sp - 1 ≠ 0xFF0F → t.ifByte = s.ifByte &&& ~~~((1#8) <<< i)) ∧
        t = { write16 (s.setIf (s.ifByte &&& ~~~((1#8) <<< i))) (s.sp - 2) s.pc with
              sp := s.sp - 2, pc := t.pc, ime := false, halted := false, cycles := t.cycles })

/-- Among pending requests the lowest-numbered set bit wins. Formalises R386 (quoted in OBLIGATIONS.json). -/
def Obligations.PriorityIsTheLowestBit : Prop :=
  ∀ p : Byte, p &&& 0x1F ≠ 0 → highestPriority p < 5 ∧ p.getLsbD (highestPriority p) = true ∧
    ∀ j < highestPriority p, p.getLsbD j = false

/-- Tick promotes ime_pending to IME before the check exactly when it was set at the step's start. Formalises 60_exceptions.md section 2.
The captured p is the decision D9 of the spec. -/
def Obligations.TickPromotesOnlyACapturedPending : Prop :=
  ∀ (s : State) (n : Nat) (p : Bool), ∀ e, e = envStep { s with cycles := s.cycles + n } →
    e.imePending = s.imePending ∧ e.ime = s.ime ∧ e.cycles = s.cycles + n ∧
    (p = true → s.imePending = true → tick n p s = checkInterrupt { e with ime := true, imePending := false }) ∧
    (¬ (p = true ∧ s.imePending = true) → tick n p s = checkInterrupt e)

/-- No interrupt is taken between EI and the instruction after it; the pending request is taken after that. Formalises 47_system.md
section 2, 60_exceptions.md section 2. -/
def Obligations.EiTakesEffectAfterTheNextInstruction : Prop :=
  ∀ s : State, s.stopped = false → s.ime = false → s.pc.toNat < 0x10000 →
    (s.imePending = false → read8 s s.pc = 0xFB →
      ∃ t, step s = .next t ∧ t.pc = s.pc + 1 ∧ t.ime = false ∧ t.imePending = true ∧ t.sp = s.sp) ∧
    (s.imePending = true → read8 s s.pc = 0x00 →
      ∃ t, step s = .next t ∧ t.imePending = false ∧
        ((envStep s).pending ≠ 0 → t.ime = false ∧ t.sp = s.sp - 2 ∧ ∃ k < 5, t.pc.toNat = 0x40 + 8 * k) ∧
        ((envStep s).pending = 0 → t.ime = true ∧ t.sp = s.sp ∧ t.pc = s.pc + 1))

/-- The environment's move inside a Tick sets IF bits 4 to 0, joypad bytes, stopped and device I/O bytes, and nothing else. Formalises
00_scope.md section 4, 60_exceptions.md section 2. The input list and the counter of PPU answers are the model's own (logs 6 and 7). That
no IF bit is cleared, and that IF bits 7 to 5 and the selection byte stay, is the model's choice of what a device owns (log 19). -/
def Obligations.EnvironmentMoveIsConfined : Prop :=
  ∀ s t : State, s.memoryOk = true → t = envStep s →
    t = { s with io := t.io, dpad := t.dpad, buttons := t.buttons, stopped := t.stopped, env := t.env, ppuEpoch := s.ppuEpoch + 1 } ∧
    (s.stopped = true → t.stopped = true) ∧ Memory.read t.io 0x00 = Memory.read s.io 0x00 ∧
    (∀ k < 5, s.ifByte.getLsbD k = true → t.ifByte.getLsbD k = true) ∧
    (∀ k, 5 ≤ k → t.ifByte.getLsbD k = s.ifByte.getLsbD k) ∧ t.env = s.env.tail

/-- HALT completes with halted 0, having changed only what waiting and, if it ends in one, an interrupt dispatch change. Formalises
47_system.md section 2, 60_exceptions.md section 2. That the loop ends with a quantum of 0 too is the model's choice, log 17. -/
def Obligations.HaltCompletes : Prop :=
  ∀ s : State, ∃ t, exec .halt s = .next t ∧ t.halted = false ∧
    (t.a = s.a ∧ t.b = s.b ∧ t.c = s.c ∧ t.d = s.d ∧ t.e = s.e ∧ t.h = s.h ∧ t.l = s.l ∧ t.f = s.f) ∧
    (t.cart = s.cart ∧ t.params = s.params ∧ t.wramBank = s.wramBank ∧ t.vramBank = s.vramBank) ∧
    (HasWaited s t ∨
      (t.sp = s.sp - 2 ∧ t.ime = false ∧ (∃ k < 5, t.pc.toNat = 0x40 + 8 * k) ∧
        ∃ e, HasWaited s e ∧ e.ime = true ∧ e.pending ≠ 0 ∧ t = takeInterrupt (highestPriority e.pending) e))

/-- With no interrupt enabled HALT ends at the fuse, after 70224 cycles when the quantum divides it. Formalises 70_reset_and_hazards.md
section 3, 47_system.md section 2. -/
def Obligations.HaltFuseBoundsTheWait : Prop :=
  ∀ s : State, s.ie &&& 0x1F = 0 → 1 ≤ s.params.haltTickQuantum →
    ∃ t, exec .halt s = .next t ∧ t.halted = false ∧ t.pc = s.pc + 1 ∧ t.sp = s.sp ∧ t.ie = s.ie ∧
      (t.vram = s.vram ∧ t.eram = s.eram ∧ t.wram = s.wram ∧ t.oam = s.oam ∧ t.hram = s.hram) ∧
      s.cycles + 70224 ≤ t.cycles ∧ t.cycles < s.cycles + 70224 + s.params.haltTickQuantum ∧
      (s.params.haltTickQuantum ∣ 70224 → t.cycles = s.cycles + 70224)

/-- HALT ends at its first Tick that finds an enabled request: dispatched with IME 1, without dispatch with IME 0. Formalises 47_system.md
section 2, 60_exceptions.md section 2. The loop is the decision D16 of the spec. -/
def Obligations.HaltWakesOnAPendingRequest : Prop :=
  ∀ (s : State) (k : Nat), 1 ≤ s.params.haltTickQuantum → k * s.params.haltTickQuantum < 70224 →
    (∀ j, 1 ≤ j → j ≤ k → (waiting s j).pending = 0) → ∀ e, e = waiting s (k + 1) → e.pending ≠ 0 →
    HasWaited s e ∧ e.cycles = s.cycles + (k + 1) * s.params.haltTickQuantum ∧
    (e.ime = false → exec .halt s = .next { e with halted := false }) ∧
    (e.ime = true → exec .halt s = .next (takeInterrupt (highestPriority e.pending) e) ∧
      (takeInterrupt (highestPriority e.pending) e).halted = false ∧ (takeInterrupt (highestPriority e.pending) e).sp = s.sp - 2)

/-- LD r,r', LD r,(HL) and LD r,d8 put the source value in the register and change nothing else. Formalises 41_load8.md. -/
def Obligations.RegisterLoads : Prop :=
  (∀ row ∈ loadRows, ∀ s, ∃ t, exec row.1 s = .next t ∧ readR8 t row.2.1 = readR8 s row.2.2 ∧
      OtherRegisters row.2.1 s t ∧ t.f = s.f ∧ t.sp = s.sp ∧ t.pc = s.pc + 1 ∧ OnlyRegisters s t) ∧
    (∀ row ∈ loadImmRows, ∀ d8 s, ∃ t, exec (row.1 d8) s = .next t ∧ readR8 t row.2 = d8 ∧
      OtherRegisters row.2 s t ∧ t.f = s.f ∧ t.sp = s.sp ∧ t.pc = s.pc + 2 ∧ OnlyRegisters s t)

/-- LD A,(BC), (DE), (a16), (HL+), (HL-) and LDH A,(C), (a8) load A from the address they name. Formalises 41_load8.md. -/
def Obligations.LoadsOfA : Prop :=
  LoadsA .ldAAtBc 1 State.bc ∧ LoadsA .ldAAtDe 1 State.de ∧ (∀ a16, LoadsA (.ldAAtA16 a16) 3 fun _ => a16) ∧
    LoadsA .ldhAAtC 1 (fun s => BitVec.ofNat 16 (0xFF00 + s.c.toNat)) ∧
    (∀ a8, LoadsA (.ldhAAtA8 a8) 2 fun _ => BitVec.ofNat 16 (0xFF00 + a8.toNat)) ∧
    (∀ s, ∃ t, exec .ldAAtHlInc s = .next t ∧ t.a = read8 s s.hl ∧ t.hl.toNat = (s.hl.toNat + 1) % 65536 ∧
      t = { s with a := t.a, h := t.h, l := t.l, pc := s.pc + 1 } ∧ ∀ addr, read8 t addr = read8 s addr) ∧
    (∀ s, ∃ t, exec .ldAAtHlDec s = .next t ∧ t.a = read8 s s.hl ∧ t.hl.toNat = (s.hl.toNat + 65535) % 65536 ∧
      t = { s with a := t.a, h := t.h, l := t.l, pc := s.pc + 1 } ∧ ∀ addr, read8 t addr = read8 s addr)

/-- The byte-storing loads store one byte at the address they name and change nothing else. Formalises 41_load8.md, 20_memory.md section
2. -/
def Obligations.ByteStores : Prop :=
  (∀ row ∈ storeRows, StoresByte row.1 1 State.hl (fun s => readR8 s row.2)) ∧
    (∀ d8, StoresByte (.ldAtHlD8 d8) 2 State.hl fun _ => d8) ∧
    StoresByte .ldAtBcA 1 State.bc State.a ∧ StoresByte .ldAtDeA 1 State.de State.a ∧
    (∀ a16, StoresByte (.ldAtA16A a16) 3 (fun _ => a16) State.a) ∧
    StoresByte .ldhAtCA 1 (fun s => BitVec.ofNat 16 (0xFF00 + s.c.toNat)) State.a ∧
    (∀ a8, StoresByte (.ldhAtA8A a8) 2 (fun _ => BitVec.ofNat 16 (0xFF00 + a8.toNat)) State.a) ∧
    StoresAndMoves .ldAtHlIncA 1 ∧ StoresAndMoves .ldAtHlDecA 65535

/-- LD rr,d16, LD SP,HL and LD HL,SP+e8 write their one 16-bit destination. Formalises 42_load16_stack.md. -/
def Obligations.WordLoads : Prop :=
  (∀ row ∈ loadPairRows, ∀ d16 s, ∃ t, exec (row.1 d16) s = .next t ∧ readRp t row.2 = d16 ∧
      (∀ y, y ≠ row.2 → readRp t y = readRp s y) ∧ t.a = s.a ∧ t.f = s.f ∧ t.pc = s.pc + 3 ∧ OnlyRegisters s t) ∧
    (∀ s, ∃ t, exec .ldSpHl s = .next t ∧ t = { s with sp := s.hl, pc := s.pc + 1 } ∧ ∀ addr, read8 t addr = read8 s addr) ∧
    (∀ e8 s, ∃ t, exec (.ldHlSpE8 e8) s = .next t ∧ AddSpResult s.sp e8 t.hl t.f ∧
      t = { s with h := t.h, l := t.l, f := t.f, pc := s.pc + 2 } ∧ ∀ addr, read8 t addr = read8 s addr)

/-- LD (a16),SP stores SP low byte first at a16 and a16 + 1 and changes nothing else. Formalises 42_load16_stack.md, 20_memory.md section
4. -/
def Obligations.StoreOfSp : Prop :=
  ∀ (a16 : Word) (s : State), s.memoryOk = true →
    ∃ t, exec (.ldAtA16Sp a16) s = .next t ∧ WordStored s t a16 s.sp ∧ SameProcessor s t ∧ t.sp = s.sp ∧ t.pc = s.pc + 3 ∧
      t = { write16 s a16 s.sp with pc := s.pc + 3 }

/-- PUSH stores the pair at SP - 2; POP loads the pair from SP; AF packs and unpacks the four flags. Formalises 42_load16_stack.md,
20_memory.md section 4, 10_state.md section 2. -/
def Obligations.PushesAndPops : Prop :=
  (∀ row ∈ pushRows, ∀ s, s.memoryOk = true → Pushes row.1 s (readRp2 s row.2) (s.pc + 1)) ∧
    (∀ row ∈ popRows, ∀ s, ∃ t, exec row.1 s = .next t ∧
      (readRp2 t row.2).extractLsb' 8 8 = read8 s (s.sp + 1) ∧
      (readRp2 t row.2).extractLsb' 0 8 = (if row.2 = .af then read8 s s.sp &&& 0xF0 else read8 s s.sp) ∧
      (∀ y, y ≠ row.2 → readRp2 t y = readRp2 s y) ∧
      t.f = (if row.2 = .af then ⟨(read8 s s.sp).getLsbD 7, (read8 s s.sp).getLsbD 6, (read8 s s.sp).getLsbD 5, (read8 s s.sp).getLsbD 4⟩
        else s.f) ∧
      t.sp = s.sp + 2 ∧ t.pc = s.pc + 1 ∧ OnlyRegisters s t)

/-- ADD A,r, ADD A,(HL) and ADD A,d8 give the sum modulo 256 with Z, N, H, C of add8. Formalises R131 (quoted in OBLIGATIONS.json). -/
def Obligations.AddsToA : Prop :=
  (∀ a v : Byte, ∀ c, BinaryResult .add a v c (add8 a v).1 (add8 a v).2) ∧
    (∀ row ∈ addRows, Operates .add row.1 1 fun s => readR8 s row.2) ∧ (∀ d8, Operates .add (.addAD8 d8) 2 fun _ => d8)

/-- ADC, SUB, SBC and CP with a register, the byte at HL or an immediate give result and flags in plain arithmetic. Formalises 43_alu8.md,
40_alu_primitives.md section 2. -/
def Obligations.CarryAndBorrowArithmetic : Prop :=
  ((∀ row ∈ adcRows, Operates .adc row.1 1 fun s => readR8 s row.2) ∧ ∀ d8, Operates .adc (.adcAD8 d8) 2 fun _ => d8) ∧
    ((∀ row ∈ subRows, Operates .sub row.1 1 fun s => readR8 s row.2) ∧ ∀ d8, Operates .sub (.subAD8 d8) 2 fun _ => d8) ∧
    ((∀ row ∈ sbcRows, Operates .sbc row.1 1 fun s => readR8 s row.2) ∧ ∀ d8, Operates .sbc (.sbcAD8 d8) 2 fun _ => d8) ∧
    ((∀ row ∈ cpRows, Operates .cp row.1 1 fun s => readR8 s row.2) ∧ ∀ d8, Operates .cp (.cpAD8 d8) 2 fun _ => d8)

/-- AND, XOR and OR with a register, the byte at HL or an immediate act bit by bit, with their fixed flags. Formalises 43_alu8.md,
40_alu_primitives.md section 2. -/
def Obligations.LogicOperations : Prop :=
  ((∀ row ∈ andRows, Operates .and row.1 1 fun s => readR8 s row.2) ∧ ∀ d8, Operates .and (.andAD8 d8) 2 fun _ => d8) ∧
    ((∀ row ∈ xorRows, Operates .xor row.1 1 fun s => readR8 s row.2) ∧ ∀ d8, Operates .xor (.xorAD8 d8) 2 fun _ => d8) ∧
    ((∀ row ∈ orRows, Operates .or row.1 1 fun s => readR8 s row.2) ∧ ∀ d8, Operates .or (.orAD8 d8) 2 fun _ => d8)

/-- INC and DEC of a register or the byte at HL add or subtract 1, with Z, N, H from the result and C kept. Formalises 43_alu8.md,
40_alu_primitives.md section 2. -/
def Obligations.IncrementsAndDecrements : Prop :=
  (∀ row ∈ incRows, Replaces row.1 1 row.2 IncResult) ∧ (∀ row ∈ decRows, Replaces row.1 1 row.2 DecResult)

/-- DAA, CPL, SCF and CCF change A and the flags as their primitives say, and nothing else. Formalises 43_alu8.md, 40_alu_primitives.md
section 4. -/
def Obligations.AccumulatorAdjusts : Prop :=
  ∀ s, (∃ t, exec .daa s = .next t ∧
      t.a.toNat = (if s.f.n then 256 + s.a.toNat - daaAdjust s.a.toNat s.f.n s.f.h s.f.c
        else s.a.toNat + daaAdjust s.a.toNat s.f.n s.f.h s.f.c) % 256 ∧
      t.f = ⟨decide (t.a = 0), s.f.n, false, s.f.c || (!s.f.n && decide (s.a.toNat > 0x99))⟩ ∧ OnlyAccumulator 1 s t) ∧
    (∃ t, exec .cpl s = .next t ∧ t.a.toNat = 255 - s.a.toNat ∧ t.f = ⟨s.f.z, true, true, s.f.c⟩ ∧ OnlyAccumulator 1 s t) ∧
    (∃ t, exec .scf s = .next t ∧ t.a = s.a ∧ t.f = ⟨s.f.z, false, false, true⟩ ∧ OnlyAccumulator 1 s t) ∧
    (∃ t, exec .ccf s = .next t ∧ t.a = s.a ∧ t.f = ⟨s.f.z, false, false, !s.f.c⟩ ∧ OnlyAccumulator 1 s t)

/-- ADD HL,rr, ADD SP,e8, INC rr and DEC rr in plain arithmetic, with their flags and frames. Formalises 44_alu16.md, 40_alu_primitives.md
section 3. -/
def Obligations.WordArithmetic : Prop :=
  (∀ row ∈ addHlRows, ∀ s, ∃ t, exec row.1 s = .next t ∧ t.hl.toNat = (s.hl.toNat + (readRp s row.2).toNat) % 65536 ∧
      t.f = ⟨s.f.z, false, decide (s.hl.toNat % 4096 + (readRp s row.2).toNat % 4096 > 0xFFF),
        decide (s.hl.toNat + (readRp s row.2).toNat > 0xFFFF)⟩ ∧
      t = { s with h := t.h, l := t.l, f := t.f, pc := s.pc + 1 } ∧ ∀ addr, read8 t addr = read8 s addr) ∧
    (∀ e8 s, ∃ t, exec (.addSpE8 e8) s = .next t ∧ AddSpResult s.sp e8 t.sp t.f ∧
      t = { s with sp := t.sp, f := t.f, pc := s.pc + 2 } ∧ ∀ addr, read8 t addr = read8 s addr) ∧
    (∀ row ∈ incPairRows, ∀ s, ∃ t, exec row.1 s = .next t ∧ (readRp t row.2).toNat = ((readRp s row.2).toNat + 1) % 65536 ∧
      (∀ y, y ≠ row.2 → readRp t y = readRp s y) ∧ t.a = s.a ∧ t.f = s.f ∧ t.pc = s.pc + 1 ∧ OnlyRegisters s t) ∧
    (∀ row ∈ decPairRows, ∀ s, ∃ t, exec row.1 s = .next t ∧ (readRp t row.2).toNat = ((readRp s row.2).toNat + 65535) % 65536 ∧
      (∀ y, y ≠ row.2 → readRp t y = readRp s y) ∧ t.a = s.a ∧ t.f = s.f ∧ t.pc = s.pc + 1 ∧ OnlyRegisters s t)

/-- RLCA, RRCA, RLA and RRA rotate A like the CB forms but always clear Z. Formalises 45_rotate_bit.md, 40_alu_primitives.md section 5. -/
def Obligations.AccumulatorRotates : Prop :=
  ∀ row ∈ rotARows, ∀ s, ∃ t, exec row.1 s = .next t ∧ t.f.z = false ∧
    RotateResult row.2 s.a s.f.c t.a { t.f with z := decide (t.a = 0) } ∧ OnlyAccumulator 1 s t

/-- The 64 CB rotates and shifts move the operand's bits and set the flags as their primitives say. Formalises 45_rotate_bit.md,
40_alu_primitives.md section 5. -/
def Obligations.RotatesAndShifts : Prop :=
  ∀ row ∈ rotRows, Replaces row.1 2 row.2.2 fun v f r g => RotateResult row.2.1 v f.c r g

/-- BIT n sets Z to the complement of the bit, N to 0, H to 1, keeps C, and changes nothing else. Formalises R157 (quoted in
OBLIGATIONS.json). -/
def Obligations.BitTests : Prop :=
  (∀ (n : Fin 8) (v : Byte) (c : Bool), bitTest n v c = ⟨decide (v.toNat / 2 ^ n.val % 2 = 0), false, true, c⟩) ∧
    (∀ row ∈ bitRows, ∀ s, ∃ t, exec row.1 s = .next t ∧
      t.f = ⟨decide ((readR8 s row.2.2).toNat / 2 ^ row.2.1.val % 2 = 0), false, true, s.f.c⟩ ∧
      t = { s with f := t.f, pc := s.pc + 2 } ∧ ∀ addr, read8 t addr = read8 s addr)

/-- RES n clears and SET n sets one bit of the operand and writes no flag. Formalises 45_rotate_bit.md, 40_alu_primitives.md section 6. -/
def Obligations.BitResetsAndSets : Prop :=
  (∀ row ∈ resRows, Replaces row.1 2 row.2.2 (ResResult row.2.1)) ∧ (∀ row ∈ setRows, Replaces row.1 2 row.2.2 (SetResult row.2.1))

/-- JP, JR and their conditional forms and JP HL change PC and nothing else. Formalises 46_control.md. -/
def Obligations.Jumps : Prop :=
  (∀ a16 s, GoesTo (.jpA16 a16) s a16) ∧ (∀ s, GoesTo .jpHl s s.hl) ∧
    (∀ row ∈ jumpIfRows, ∀ a16 s, GoesTo (row.1 a16) s (if condHolds s.f row.2 then a16 else s.pc + 3)) ∧
    (∀ e8 s, GoesTo (.jrE8 e8) s (BitVec.ofNat 16 (s.pc.toNat + 2 + displacement e8))) ∧
    (∀ row ∈ jumpRelIfRows, ∀ e8 s, GoesTo (row.1 e8) s
      (if condHolds s.f row.2 then BitVec.ofNat 16 (s.pc.toNat + 2 + displacement e8) else s.pc + 2)) ∧
    (∀ f : Flags, condHolds f .nz = !f.z ∧ condHolds f .z = f.z ∧ condHolds f .nc = !f.c ∧ condHolds f .c = f.c)

/-- CALL, CALL cc when the condition holds, and RST push the address after them and go to their target. Formalises 46_control.md,
20_memory.md section 4. -/
def Obligations.CallsAndRestarts : Prop :=
  ∀ s, s.memoryOk = true →
    (∀ a16, CallsTo (.callA16 a16) s 3 a16) ∧
    (∀ row ∈ callIfRows, ∀ a16, if condHolds s.f row.2 then CallsTo (row.1 a16) s 3 a16 else GoesTo (row.1 a16) s (s.pc + 3)) ∧
    (∀ row ∈ rstRows, CallsTo row.1 s 1 row.2)

/-- RET and RET cc pop PC; RETI also sets IME at once and clears ime_pending. Formalises 46_control.md, 20_memory.md section 4. RETI does
the same as RET and leaves IME 1 and ime_pending 0 (the latter is the decision D34 of the spec). -/
def Obligations.ReturnsPopPc : Prop :=
  ∀ s, Returns .ret s ∧
    (∀ row ∈ returnIfRows, if condHolds s.f row.2 then Returns row.1 s else GoesTo row.1 s (s.pc + 1)) ∧
    (∃ t, exec .reti s = .next t ∧ t.pc.toNat = (read8 s (s.sp + 1)).toNat * 256 + (read8 s s.sp).toNat ∧
      t = { s with pc := t.pc, sp := s.sp + 2, ime := true, imePending := false } ∧ ∀ addr, read8 t addr = read8 s addr)

/-- NOP, DI, EI and STOP change their one control bit, or nothing, and PC. Formalises 47_system.md section 2. -/
def Obligations.SystemInstructions : Prop :=
  ∀ s, (∃ t, exec .nop s = .next t ∧ t = { s with pc := s.pc + 1 } ∧ ∀ addr, read8 t addr = read8 s addr) ∧
    (∃ t, exec .di s = .next t ∧ t = { s with ime := false, imePending := false, pc := s.pc + 1 } ∧
      ∀ addr, read8 t addr = read8 s addr) ∧
    (∃ t, exec .ei s = .next t ∧ t = { s with imePending := true, pc := s.pc + 1 } ∧ ∀ addr, read8 t addr = read8 s addr) ∧
    (∀ b2, ∃ t, exec (.stop b2) s = .next t ∧ t = { s with stopped := true, pc := s.pc + 2 } ∧ ∀ addr, read8 t addr = read8 s addr)

/-- The prefix row completes, as the CB instruction that its second byte selects, and is never itself decoded. Formalises 47_system.md
section 2, 30_encoding.md section 5. -/
def Obligations.PrefixRowMeansItsSecondByte : Prop :=
  ∀ (b2 : Byte) (s : State), ∃ i t, decode [0xCB, b2] = .ok (i, []) ∧ i ≠ .prefixCb b2 ∧ exec (.prefixCb b2) s = exec i s ∧
    exec (.prefixCb b2) s = .next t

/-- The laws of the ALU primitives: F's low nibble, add then sub, swap twice, rlc and rrc, rl and rr. Formalises R161, 90_conflicts.md C1,
40_alu_primitives.md section 7. Z = (a == 0) is the spec's reading of its source (C1, D8), and rlc after rrc is marked [derived] in R161.
-/
def Obligations.AluLaws : Prop :=
  (∀ f : Flags, f.pack &&& 0x0F = 0) ∧
    (∀ a v : Byte, (sub8 (add8 a v).1 v).1 = a ∧ (sub8 (add8 a v).1 v).2.z = decide (a = 0)) ∧
    (∀ v : Byte, (swapNibbles (swapNibbles v).1).1 = v ∧ (swapNibbles (swapNibbles v).1).2 = ⟨decide (v = 0), false, false, false⟩) ∧
    (∀ v : Byte, (rrc (rlc v).1).1 = v ∧ (rlc (rrc v).1).1 = v) ∧
    (∀ (v : Byte) (c : Bool), (rr (rl v c).1 (rl v c).2.c).1 = v ∧ (rr (rl v c).1 (rl v c).2.c).2.c = c)

end ObligationStatements
end

