-- ==== Sys2Proof/Laws/Bits.lean ====
section
/-! SUPPORT. A word and its two bytes. -/

namespace Sys2Proof

theorem pairWord_toNat (h l : Byte) : (pairWord h l).toNat = h.toNat * 256 + l.toNat := by
  have hl := l.isLt
  have hh := h.isLt
  unfold pairWord
  rw [BitVec.toNat_append, Nat.shiftLeft_eq, Nat.mul_comm, ← Nat.two_pow_add_eq_or_of_lt (by omega)]

theorem hiByte_toNat (w : Word) : (hiByte w).toNat = w.toNat / 256 := by
  have := w.isLt
  unfold hiByte
  rw [BitVec.extractLsb'_toNat, Nat.shiftRight_eq_div_pow]
  omega

theorem loByte_toNat (w : Word) : (loByte w).toNat = w.toNat % 256 := by
  unfold loByte
  rw [BitVec.extractLsb'_toNat]
  rfl

/-- A word is its two bytes. -/
@[simp] theorem pairWord_hi_lo (w : Word) : pairWord (hiByte w) (loByte w) = w := by
  apply BitVec.eq_of_toNat_eq
  rw [pairWord_toNat, hiByte_toNat, loByte_toNat]
  omega

@[simp] theorem hiByte_pairWord (h l : Byte) : hiByte (pairWord h l) = h := by
  apply BitVec.eq_of_toNat_eq
  have := l.isLt
  rw [hiByte_toNat, pairWord_toNat]
  omega

@[simp] theorem loByte_pairWord (h l : Byte) : loByte (pairWord h l) = l := by
  apply BitVec.eq_of_toNat_eq
  have := l.isLt
  rw [loByte_toNat, pairWord_toNat]
  omega

end Sys2Proof
end

