-- ==== Sys2Proof/Laws/Memory.lean ====
section
/-! SUPPORT. The laws of one memory array: a read after a write, and that every operation keeps the canonical form. -/

namespace Sys2Proof.Machine

variable {m : Memory} {low x y size : Nat} {v : Byte}

@[simp] theorem Memory.read_nil (x : Nat) : Memory.read [] x = Memory.unlisted := rfl

@[simp] theorem Memory.wfFrom_nil (low : Nat) : Memory.wfFrom low [] = true := rfl

@[simp] theorem Memory.within_nil (size : Nat) : Memory.within size [] = true := rfl

theorem Memory.wfFrom_cons {k : Nat} {w : Byte} {rest : Memory} :
    Memory.wfFrom low ((k, w) :: rest) = true ↔ low ≤ k ∧ w ≠ Memory.unlisted ∧ Memory.wfFrom (k + 1) rest = true := by
  simp [Memory.wfFrom, and_assoc]

theorem Memory.within_cons {k : Nat} {w : Byte} {rest : Memory} :
    Memory.within size ((k, w) :: rest) = true ↔ k < size ∧ Memory.within size rest = true := by
  simp [Memory.within]

theorem Memory.wfFrom_mono {low' : Nat} (h : Memory.wfFrom low m = true) (hl : low' ≤ low) : Memory.wfFrom low' m = true := by
  cases m with
  | nil => rfl
  | cons cell rest =>
    obtain ⟨k, w⟩ := cell
    rw [Memory.wfFrom_cons] at h ⊢
    exact ⟨by omega, h.2⟩

theorem Memory.write_wfFrom (h : Memory.wfFrom low m = true) (hx : low ≤ x) : Memory.wfFrom low (Memory.write m x v) = true := by
  induction m generalizing low with
  | nil =>
    unfold Memory.write
    split
    · rfl
    · rename_i hv; exact Memory.wfFrom_cons.2 ⟨hx, hv, rfl⟩
  | cons cell rest ih =>
    obtain ⟨k, w⟩ := cell
    obtain ⟨hk, hw, hr⟩ := Memory.wfFrom_cons.1 h
    unfold Memory.write
    split
    · split
      · exact h
      · rename_i hxk hv
        exact Memory.wfFrom_cons.2 ⟨hx, hv, Memory.wfFrom_cons.2 ⟨by omega, hw, hr⟩⟩
    · split
      · split
        · exact Memory.wfFrom_mono hr (by omega)
        · rename_i hv; exact Memory.wfFrom_cons.2 ⟨hx, hv, by simp_all⟩
      · exact Memory.wfFrom_cons.2 ⟨hk, hw, ih hr (by omega)⟩

/-- A write keeps the canonical form. -/
theorem Memory.write_wf (h : m.wf = true) : (Memory.write m x v).wf = true := Memory.write_wfFrom h (Nat.zero_le _)

/-- A write inside the array keeps it inside its size. -/
theorem Memory.write_within (h : Memory.within size m = true) (hx : x < size) : Memory.within size (Memory.write m x v) = true := by
  induction m with
  | nil =>
    unfold Memory.write
    split
    · rfl
    · exact Memory.within_cons.2 ⟨hx, rfl⟩
  | cons cell rest ih =>
    obtain ⟨k, w⟩ := cell
    obtain ⟨hk, hr⟩ := Memory.within_cons.1 h
    unfold Memory.write
    split
    · split <;> simp_all [Memory.within_cons]
    · split
      · split <;> simp_all [Memory.within_cons]
      · simp_all [Memory.within_cons]

theorem Memory.read_below (h : Memory.wfFrom low m = true) (hx : x < low) : Memory.read m x = Memory.unlisted := by
  cases m with
  | nil => rfl
  | cons cell rest =>
    obtain ⟨k, w⟩ := cell
    have hk := (Memory.wfFrom_cons.1 h).1
    simp [Memory.read, show x < k by omega]

theorem Memory.read_write_same_from (h : Memory.wfFrom low m = true) : Memory.read (Memory.write m x v) x = v := by
  induction m generalizing low with
  | nil =>
    unfold Memory.write
    split <;> simp_all [Memory.read]
  | cons cell rest ih =>
    obtain ⟨k, w⟩ := cell
    obtain ⟨hk, hw, hr⟩ := Memory.wfFrom_cons.1 h
    unfold Memory.write
    split
    · split <;> simp_all [Memory.read]
    · split
      · split
        · rename_i hv; subst_vars; exact Memory.read_below hr (by omega)
        · simp [Memory.read]
      · rename_i hlt hne
        simp [Memory.read, hlt, hne, ih hr]

/-- A read gives what the last write to the same element stored. -/
theorem Memory.read_write_same (h : m.wf = true) : Memory.read (Memory.write m x v) x = v := Memory.read_write_same_from h

theorem Memory.read_write_other_from (h : Memory.wfFrom low m = true) (hne : y ≠ x) :
    Memory.read (Memory.write m x v) y = Memory.read m y := by
  induction m generalizing low with
  | nil =>
    unfold Memory.write
    split
    · rfl
    · simp [Memory.read, hne]
  | cons cell rest ih =>
    obtain ⟨k, w⟩ := cell
    obtain ⟨hk, hw, hr⟩ := Memory.wfFrom_cons.1 h
    unfold Memory.write
    split
    · split
      · rfl
      · rename_i hxk _
        by_cases hyx : y < x
        · simp [Memory.read, hyx, show y < k by omega]
        · simp [Memory.read, hyx, hne]
    · split
      · rename_i hxk
        subst hxk
        split
        · by_cases hyx : y < x
          · rw [Memory.read_below hr (by omega)]; simp [Memory.read, hyx]
          · simp [Memory.read, hyx, hne]
        · simp [Memory.read, hne]
      · simp only [Memory.read, ih hr]

/-- A write leaves every other element alone. -/
theorem Memory.read_write_other (h : m.wf = true) (hne : y ≠ x) : Memory.read (Memory.write m x v) y = Memory.read m y :=
  Memory.read_write_other_from h hne

theorem Memory.writeAll_wf (cells : List Host.Cell) (h : m.wf = true) : (Memory.writeAll m cells).wf = true := by
  induction cells generalizing m with
  | nil => exact h
  | cons cell rest ih => exact ih (Memory.write_wf h)

theorem Memory.writeAll_within (cells : List Host.Cell) (h : Memory.within size m = true)
    (hc : ∀ cell ∈ cells, cell.1 < size) : Memory.within size (Memory.writeAll m cells) = true := by
  induction cells generalizing m with
  | nil => exact h
  | cons cell rest ih =>
    exact ih (Memory.write_within h (hc cell (by simp))) (fun c hr => hc c (by simp [hr]))

theorem Memory.ext_from {m' : Memory} (h : Memory.wfFrom low m = true) (h' : Memory.wfFrom low m' = true)
    (heq : ∀ x, Memory.read m x = Memory.read m' x) : m = m' := by
  induction m generalizing low m' with
  | nil =>
    cases m' with
    | nil => rfl
    | cons cell rest =>
      obtain ⟨k, w⟩ := cell
      have hk := heq k
      have hw := (Memory.wfFrom_cons.1 h').2.1
      simp [Memory.read] at hk
      exact absurd hk.symm hw
  | cons cell rest ih =>
    obtain ⟨k, w⟩ := cell
    obtain ⟨-, hw, hr⟩ := Memory.wfFrom_cons.1 h
    cases m' with
    | nil =>
      have hk := heq k
      simp [Memory.read] at hk
      exact absurd hk hw
    | cons cell' rest' =>
      obtain ⟨k', w'⟩ := cell'
      obtain ⟨-, hw', hr'⟩ := Memory.wfFrom_cons.1 h'
      have hk := heq k
      have hk' := heq k'
      have hkk : k = k' := by
        simp only [Memory.read] at hk hk'
        rcases Nat.lt_trichotomy k k' with hlt | heq | hgt
        · simp [hlt] at hk; exact absurd hk hw
        · exact heq
        · simp [hgt] at hk'; exact absurd hk'.symm hw'
      subst hkk
      have hww : w = w' := by simpa [Memory.read] using hk
      subst hww
      congr 1
      refine ih hr hr' (fun x => ?_)
      by_cases hx : x < k + 1
      · rw [Memory.read_below hr hx, Memory.read_below hr' hx]
      · have := heq x
        simpa [Memory.read, show ¬ x < k by omega, show x ≠ k by omega] using this

/-- Equal memories are equal data: two canonical lists that read alike are the same list. -/
theorem Memory.ext_of_wf {m' : Memory} (h : m.wf = true) (h' : m'.wf = true)
    (heq : ∀ x, Memory.read m x = Memory.read m' x) : m = m' := Memory.ext_from h h' heq

end Sys2Proof.Machine
end

