-- ==== Sys2Proof/Laws/State.lean ====
section
/-! SUPPORT. One lemma per field per update of the state, and the split of the state into the processor's part and the bus's part. -/

namespace Sys2Proof.Machine

variable (s t : State)

@[simp] theorem State.advance_a (n : Nat) : (s.advance n).a = s.a := rfl
@[simp] theorem State.advance_b (n : Nat) : (s.advance n).b = s.b := rfl
@[simp] theorem State.advance_c (n : Nat) : (s.advance n).c = s.c := rfl
@[simp] theorem State.advance_d (n : Nat) : (s.advance n).d = s.d := rfl
@[simp] theorem State.advance_e (n : Nat) : (s.advance n).e = s.e := rfl
@[simp] theorem State.advance_h (n : Nat) : (s.advance n).h = s.h := rfl
@[simp] theorem State.advance_l (n : Nat) : (s.advance n).l = s.l := rfl
@[simp] theorem State.advance_f (n : Nat) : (s.advance n).f = s.f := rfl
@[simp] theorem State.advance_sp (n : Nat) : (s.advance n).sp = s.sp := rfl
@[simp] theorem State.advance_pc (n : Nat) : (s.advance n).pc = s.pc + BitVec.ofNat 16 n := rfl
@[simp] theorem State.advance_ime (n : Nat) : (s.advance n).ime = s.ime := rfl
@[simp] theorem State.advance_imePending (n : Nat) : (s.advance n).imePending = s.imePending := rfl
@[simp] theorem State.advance_halted (n : Nat) : (s.advance n).halted = s.halted := rfl
@[simp] theorem State.advance_stopped (n : Nat) : (s.advance n).stopped = s.stopped := rfl
@[simp] theorem State.advance_ie (n : Nat) : (s.advance n).ie = s.ie := rfl
@[simp] theorem State.advance_romBank (n : Nat) : (s.advance n).romBank = s.romBank := rfl
@[simp] theorem State.advance_eramBank (n : Nat) : (s.advance n).eramBank = s.eramBank := rfl
@[simp] theorem State.advance_wramBank (n : Nat) : (s.advance n).wramBank = s.wramBank := rfl
@[simp] theorem State.advance_vramBank (n : Nat) : (s.advance n).vramBank = s.vramBank := rfl
@[simp] theorem State.advance_ramEnable (n : Nat) : (s.advance n).ramEnable = s.ramEnable := rfl
@[simp] theorem State.advance_bankingMode (n : Nat) : (s.advance n).bankingMode = s.bankingMode := rfl
@[simp] theorem State.advance_cycles (n : Nat) : (s.advance n).cycles = s.cycles := rfl
@[simp] theorem State.advance_vram (n : Nat) : (s.advance n).vram = s.vram := rfl
@[simp] theorem State.advance_eram (n : Nat) : (s.advance n).eram = s.eram := rfl
@[simp] theorem State.advance_wram (n : Nat) : (s.advance n).wram = s.wram := rfl
@[simp] theorem State.advance_oam (n : Nat) : (s.advance n).oam = s.oam := rfl
@[simp] theorem State.advance_hram (n : Nat) : (s.advance n).hram = s.hram := rfl
@[simp] theorem State.advance_io (n : Nat) : (s.advance n).io = s.io := rfl
@[simp] theorem State.advance_dpad (n : Nat) : (s.advance n).dpad = s.dpad := rfl
@[simp] theorem State.advance_buttons (n : Nat) : (s.advance n).buttons = s.buttons := rfl
@[simp] theorem State.advance_cart (n : Nat) : (s.advance n).cart = s.cart := rfl
@[simp] theorem State.advance_params (n : Nat) : (s.advance n).params = s.params := rfl
@[simp] theorem State.advance_env (n : Nat) : (s.advance n).env = s.env := rfl
@[simp] theorem State.advance_ppuEpoch (n : Nat) : (s.advance n).ppuEpoch = s.ppuEpoch := rfl

@[simp] theorem State.setFlags_a (v : Flags) : (s.setFlags v).a = s.a := rfl
@[simp] theorem State.setFlags_b (v : Flags) : (s.setFlags v).b = s.b := rfl
@[simp] theorem State.setFlags_c (v : Flags) : (s.setFlags v).c = s.c := rfl
@[simp] theorem State.setFlags_d (v : Flags) : (s.setFlags v).d = s.d := rfl
@[simp] theorem State.setFlags_e (v : Flags) : (s.setFlags v).e = s.e := rfl
@[simp] theorem State.setFlags_h (v : Flags) : (s.setFlags v).h = s.h := rfl
@[simp] theorem State.setFlags_l (v : Flags) : (s.setFlags v).l = s.l := rfl
@[simp] theorem State.setFlags_f (v : Flags) : (s.setFlags v).f = v := rfl
@[simp] theorem State.setFlags_sp (v : Flags) : (s.setFlags v).sp = s.sp := rfl
@[simp] theorem State.setFlags_pc (v : Flags) : (s.setFlags v).pc = s.pc := rfl
@[simp] theorem State.setFlags_ime (v : Flags) : (s.setFlags v).ime = s.ime := rfl
@[simp] theorem State.setFlags_imePending (v : Flags) : (s.setFlags v).imePending = s.imePending := rfl
@[simp] theorem State.setFlags_halted (v : Flags) : (s.setFlags v).halted = s.halted := rfl
@[simp] theorem State.setFlags_stopped (v : Flags) : (s.setFlags v).stopped = s.stopped := rfl
@[simp] theorem State.setFlags_ie (v : Flags) : (s.setFlags v).ie = s.ie := rfl
@[simp] theorem State.setFlags_romBank (v : Flags) : (s.setFlags v).romBank = s.romBank := rfl
@[simp] theorem State.setFlags_eramBank (v : Flags) : (s.setFlags v).eramBank = s.eramBank := rfl
@[simp] theorem State.setFlags_wramBank (v : Flags) : (s.setFlags v).wramBank = s.wramBank := rfl
@[simp] theorem State.setFlags_vramBank (v : Flags) : (s.setFlags v).vramBank = s.vramBank := rfl
@[simp] theorem State.setFlags_ramEnable (v : Flags) : (s.setFlags v).ramEnable = s.ramEnable := rfl
@[simp] theorem State.setFlags_bankingMode (v : Flags) : (s.setFlags v).bankingMode = s.bankingMode := rfl
@[simp] theorem State.setFlags_cycles (v : Flags) : (s.setFlags v).cycles = s.cycles := rfl
@[simp] theorem State.setFlags_vram (v : Flags) : (s.setFlags v).vram = s.vram := rfl
@[simp] theorem State.setFlags_eram (v : Flags) : (s.setFlags v).eram = s.eram := rfl
@[simp] theorem State.setFlags_wram (v : Flags) : (s.setFlags v).wram = s.wram := rfl
@[simp] theorem State.setFlags_oam (v : Flags) : (s.setFlags v).oam = s.oam := rfl
@[simp] theorem State.setFlags_hram (v : Flags) : (s.setFlags v).hram = s.hram := rfl
@[simp] theorem State.setFlags_io (v : Flags) : (s.setFlags v).io = s.io := rfl
@[simp] theorem State.setFlags_dpad (v : Flags) : (s.setFlags v).dpad = s.dpad := rfl
@[simp] theorem State.setFlags_buttons (v : Flags) : (s.setFlags v).buttons = s.buttons := rfl
@[simp] theorem State.setFlags_cart (v : Flags) : (s.setFlags v).cart = s.cart := rfl
@[simp] theorem State.setFlags_params (v : Flags) : (s.setFlags v).params = s.params := rfl
@[simp] theorem State.setFlags_env (v : Flags) : (s.setFlags v).env = s.env := rfl
@[simp] theorem State.setFlags_ppuEpoch (v : Flags) : (s.setFlags v).ppuEpoch = s.ppuEpoch := rfl

@[simp] theorem State.setBc_a (w : Word) : (s.setBc w).a = s.a := rfl
@[simp] theorem State.setBc_b (w : Word) : (s.setBc w).b = hiByte w := rfl
@[simp] theorem State.setBc_c (w : Word) : (s.setBc w).c = loByte w := rfl
@[simp] theorem State.setBc_d (w : Word) : (s.setBc w).d = s.d := rfl
@[simp] theorem State.setBc_e (w : Word) : (s.setBc w).e = s.e := rfl
@[simp] theorem State.setBc_h (w : Word) : (s.setBc w).h = s.h := rfl
@[simp] theorem State.setBc_l (w : Word) : (s.setBc w).l = s.l := rfl
@[simp] theorem State.setBc_f (w : Word) : (s.setBc w).f = s.f := rfl
@[simp] theorem State.setBc_sp (w : Word) : (s.setBc w).sp = s.sp := rfl
@[simp] theorem State.setBc_pc (w : Word) : (s.setBc w).pc = s.pc := rfl
@[simp] theorem State.setBc_ime (w : Word) : (s.setBc w).ime = s.ime := rfl
@[simp] theorem State.setBc_imePending (w : Word) : (s.setBc w).imePending = s.imePending := rfl
@[simp] theorem State.setBc_halted (w : Word) : (s.setBc w).halted = s.halted := rfl
@[simp] theorem State.setBc_stopped (w : Word) : (s.setBc w).stopped = s.stopped := rfl
@[simp] theorem State.setBc_ie (w : Word) : (s.setBc w).ie = s.ie := rfl
@[simp] theorem State.setBc_romBank (w : Word) : (s.setBc w).romBank = s.romBank := rfl
@[simp] theorem State.setBc_eramBank (w : Word) : (s.setBc w).eramBank = s.eramBank := rfl
@[simp] theorem State.setBc_wramBank (w : Word) : (s.setBc w).wramBank = s.wramBank := rfl
@[simp] theorem State.setBc_vramBank (w : Word) : (s.setBc w).vramBank = s.vramBank := rfl
@[simp] theorem State.setBc_ramEnable (w : Word) : (s.setBc w).ramEnable = s.ramEnable := rfl
@[simp] theorem State.setBc_bankingMode (w : Word) : (s.setBc w).bankingMode = s.bankingMode := rfl
@[simp] theorem State.setBc_cycles (w : Word) : (s.setBc w).cycles = s.cycles := rfl
@[simp] theorem State.setBc_vram (w : Word) : (s.setBc w).vram = s.vram := rfl
@[simp] theorem State.setBc_eram (w : Word) : (s.setBc w).eram = s.eram := rfl
@[simp] theorem State.setBc_wram (w : Word) : (s.setBc w).wram = s.wram := rfl
@[simp] theorem State.setBc_oam (w : Word) : (s.setBc w).oam = s.oam := rfl
@[simp] theorem State.setBc_hram (w : Word) : (s.setBc w).hram = s.hram := rfl
@[simp] theorem State.setBc_io (w : Word) : (s.setBc w).io = s.io := rfl
@[simp] theorem State.setBc_dpad (w : Word) : (s.setBc w).dpad = s.dpad := rfl
@[simp] theorem State.setBc_buttons (w : Word) : (s.setBc w).buttons = s.buttons := rfl
@[simp] theorem State.setBc_cart (w : Word) : (s.setBc w).cart = s.cart := rfl
@[simp] theorem State.setBc_params (w : Word) : (s.setBc w).params = s.params := rfl
@[simp] theorem State.setBc_env (w : Word) : (s.setBc w).env = s.env := rfl
@[simp] theorem State.setBc_ppuEpoch (w : Word) : (s.setBc w).ppuEpoch = s.ppuEpoch := rfl

@[simp] theorem State.setDe_a (w : Word) : (s.setDe w).a = s.a := rfl
@[simp] theorem State.setDe_b (w : Word) : (s.setDe w).b = s.b := rfl
@[simp] theorem State.setDe_c (w : Word) : (s.setDe w).c = s.c := rfl
@[simp] theorem State.setDe_d (w : Word) : (s.setDe w).d = hiByte w := rfl
@[simp] theorem State.setDe_e (w : Word) : (s.setDe w).e = loByte w := rfl
@[simp] theorem State.setDe_h (w : Word) : (s.setDe w).h = s.h := rfl
@[simp] theorem State.setDe_l (w : Word) : (s.setDe w).l = s.l := rfl
@[simp] theorem State.setDe_f (w : Word) : (s.setDe w).f = s.f := rfl
@[simp] theorem State.setDe_sp (w : Word) : (s.setDe w).sp = s.sp := rfl
@[simp] theorem State.setDe_pc (w : Word) : (s.setDe w).pc = s.pc := rfl
@[simp] theorem State.setDe_ime (w : Word) : (s.setDe w).ime = s.ime := rfl
@[simp] theorem State.setDe_imePending (w : Word) : (s.setDe w).imePending = s.imePending := rfl
@[simp] theorem State.setDe_halted (w : Word) : (s.setDe w).halted = s.halted := rfl
@[simp] theorem State.setDe_stopped (w : Word) : (s.setDe w).stopped = s.stopped := rfl
@[simp] theorem State.setDe_ie (w : Word) : (s.setDe w).ie = s.ie := rfl
@[simp] theorem State.setDe_romBank (w : Word) : (s.setDe w).romBank = s.romBank := rfl
@[simp] theorem State.setDe_eramBank (w : Word) : (s.setDe w).eramBank = s.eramBank := rfl
@[simp] theorem State.setDe_wramBank (w : Word) : (s.setDe w).wramBank = s.wramBank := rfl
@[simp] theorem State.setDe_vramBank (w : Word) : (s.setDe w).vramBank = s.vramBank := rfl
@[simp] theorem State.setDe_ramEnable (w : Word) : (s.setDe w).ramEnable = s.ramEnable := rfl
@[simp] theorem State.setDe_bankingMode (w : Word) : (s.setDe w).bankingMode = s.bankingMode := rfl
@[simp] theorem State.setDe_cycles (w : Word) : (s.setDe w).cycles = s.cycles := rfl
@[simp] theorem State.setDe_vram (w : Word) : (s.setDe w).vram = s.vram := rfl
@[simp] theorem State.setDe_eram (w : Word) : (s.setDe w).eram = s.eram := rfl
@[simp] theorem State.setDe_wram (w : Word) : (s.setDe w).wram = s.wram := rfl
@[simp] theorem State.setDe_oam (w : Word) : (s.setDe w).oam = s.oam := rfl
@[simp] theorem State.setDe_hram (w : Word) : (s.setDe w).hram = s.hram := rfl
@[simp] theorem State.setDe_io (w : Word) : (s.setDe w).io = s.io := rfl
@[simp] theorem State.setDe_dpad (w : Word) : (s.setDe w).dpad = s.dpad := rfl
@[simp] theorem State.setDe_buttons (w : Word) : (s.setDe w).buttons = s.buttons := rfl
@[simp] theorem State.setDe_cart (w : Word) : (s.setDe w).cart = s.cart := rfl
@[simp] theorem State.setDe_params (w : Word) : (s.setDe w).params = s.params := rfl
@[simp] theorem State.setDe_env (w : Word) : (s.setDe w).env = s.env := rfl
@[simp] theorem State.setDe_ppuEpoch (w : Word) : (s.setDe w).ppuEpoch = s.ppuEpoch := rfl

@[simp] theorem State.setHl_a (w : Word) : (s.setHl w).a = s.a := rfl
@[simp] theorem State.setHl_b (w : Word) : (s.setHl w).b = s.b := rfl
@[simp] theorem State.setHl_c (w : Word) : (s.setHl w).c = s.c := rfl
@[simp] theorem State.setHl_d (w : Word) : (s.setHl w).d = s.d := rfl
@[simp] theorem State.setHl_e (w : Word) : (s.setHl w).e = s.e := rfl
@[simp] theorem State.setHl_h (w : Word) : (s.setHl w).h = hiByte w := rfl
@[simp] theorem State.setHl_l (w : Word) : (s.setHl w).l = loByte w := rfl
@[simp] theorem State.setHl_f (w : Word) : (s.setHl w).f = s.f := rfl
@[simp] theorem State.setHl_sp (w : Word) : (s.setHl w).sp = s.sp := rfl
@[simp] theorem State.setHl_pc (w : Word) : (s.setHl w).pc = s.pc := rfl
@[simp] theorem State.setHl_ime (w : Word) : (s.setHl w).ime = s.ime := rfl
@[simp] theorem State.setHl_imePending (w : Word) : (s.setHl w).imePending = s.imePending := rfl
@[simp] theorem State.setHl_halted (w : Word) : (s.setHl w).halted = s.halted := rfl
@[simp] theorem State.setHl_stopped (w : Word) : (s.setHl w).stopped = s.stopped := rfl
@[simp] theorem State.setHl_ie (w : Word) : (s.setHl w).ie = s.ie := rfl
@[simp] theorem State.setHl_romBank (w : Word) : (s.setHl w).romBank = s.romBank := rfl
@[simp] theorem State.setHl_eramBank (w : Word) : (s.setHl w).eramBank = s.eramBank := rfl
@[simp] theorem State.setHl_wramBank (w : Word) : (s.setHl w).wramBank = s.wramBank := rfl
@[simp] theorem State.setHl_vramBank (w : Word) : (s.setHl w).vramBank = s.vramBank := rfl
@[simp] theorem State.setHl_ramEnable (w : Word) : (s.setHl w).ramEnable = s.ramEnable := rfl
@[simp] theorem State.setHl_bankingMode (w : Word) : (s.setHl w).bankingMode = s.bankingMode := rfl
@[simp] theorem State.setHl_cycles (w : Word) : (s.setHl w).cycles = s.cycles := rfl
@[simp] theorem State.setHl_vram (w : Word) : (s.setHl w).vram = s.vram := rfl
@[simp] theorem State.setHl_eram (w : Word) : (s.setHl w).eram = s.eram := rfl
@[simp] theorem State.setHl_wram (w : Word) : (s.setHl w).wram = s.wram := rfl
@[simp] theorem State.setHl_oam (w : Word) : (s.setHl w).oam = s.oam := rfl
@[simp] theorem State.setHl_hram (w : Word) : (s.setHl w).hram = s.hram := rfl
@[simp] theorem State.setHl_io (w : Word) : (s.setHl w).io = s.io := rfl
@[simp] theorem State.setHl_dpad (w : Word) : (s.setHl w).dpad = s.dpad := rfl
@[simp] theorem State.setHl_buttons (w : Word) : (s.setHl w).buttons = s.buttons := rfl
@[simp] theorem State.setHl_cart (w : Word) : (s.setHl w).cart = s.cart := rfl
@[simp] theorem State.setHl_params (w : Word) : (s.setHl w).params = s.params := rfl
@[simp] theorem State.setHl_env (w : Word) : (s.setHl w).env = s.env := rfl
@[simp] theorem State.setHl_ppuEpoch (w : Word) : (s.setHl w).ppuEpoch = s.ppuEpoch := rfl

@[simp] theorem State.setAf_a (w : Word) : (s.setAf w).a = hiByte w := rfl
@[simp] theorem State.setAf_b (w : Word) : (s.setAf w).b = s.b := rfl
@[simp] theorem State.setAf_c (w : Word) : (s.setAf w).c = s.c := rfl
@[simp] theorem State.setAf_d (w : Word) : (s.setAf w).d = s.d := rfl
@[simp] theorem State.setAf_e (w : Word) : (s.setAf w).e = s.e := rfl
@[simp] theorem State.setAf_h (w : Word) : (s.setAf w).h = s.h := rfl
@[simp] theorem State.setAf_l (w : Word) : (s.setAf w).l = s.l := rfl
@[simp] theorem State.setAf_f (w : Word) : (s.setAf w).f = Flags.unpack (loByte w) := rfl
@[simp] theorem State.setAf_sp (w : Word) : (s.setAf w).sp = s.sp := rfl
@[simp] theorem State.setAf_pc (w : Word) : (s.setAf w).pc = s.pc := rfl
@[simp] theorem State.setAf_ime (w : Word) : (s.setAf w).ime = s.ime := rfl
@[simp] theorem State.setAf_imePending (w : Word) : (s.setAf w).imePending = s.imePending := rfl
@[simp] theorem State.setAf_halted (w : Word) : (s.setAf w).halted = s.halted := rfl
@[simp] theorem State.setAf_stopped (w : Word) : (s.setAf w).stopped = s.stopped := rfl
@[simp] theorem State.setAf_ie (w : Word) : (s.setAf w).ie = s.ie := rfl
@[simp] theorem State.setAf_romBank (w : Word) : (s.setAf w).romBank = s.romBank := rfl
@[simp] theorem State.setAf_eramBank (w : Word) : (s.setAf w).eramBank = s.eramBank := rfl
@[simp] theorem State.setAf_wramBank (w : Word) : (s.setAf w).wramBank = s.wramBank := rfl
@[simp] theorem State.setAf_vramBank (w : Word) : (s.setAf w).vramBank = s.vramBank := rfl
@[simp] theorem State.setAf_ramEnable (w : Word) : (s.setAf w).ramEnable = s.ramEnable := rfl
@[simp] theorem State.setAf_bankingMode (w : Word) : (s.setAf w).bankingMode = s.bankingMode := rfl
@[simp] theorem State.setAf_cycles (w : Word) : (s.setAf w).cycles = s.cycles := rfl
@[simp] theorem State.setAf_vram (w : Word) : (s.setAf w).vram = s.vram := rfl
@[simp] theorem State.setAf_eram (w : Word) : (s.setAf w).eram = s.eram := rfl
@[simp] theorem State.setAf_wram (w : Word) : (s.setAf w).wram = s.wram := rfl
@[simp] theorem State.setAf_oam (w : Word) : (s.setAf w).oam = s.oam := rfl
@[simp] theorem State.setAf_hram (w : Word) : (s.setAf w).hram = s.hram := rfl
@[simp] theorem State.setAf_io (w : Word) : (s.setAf w).io = s.io := rfl
@[simp] theorem State.setAf_dpad (w : Word) : (s.setAf w).dpad = s.dpad := rfl
@[simp] theorem State.setAf_buttons (w : Word) : (s.setAf w).buttons = s.buttons := rfl
@[simp] theorem State.setAf_cart (w : Word) : (s.setAf w).cart = s.cart := rfl
@[simp] theorem State.setAf_params (w : Word) : (s.setAf w).params = s.params := rfl
@[simp] theorem State.setAf_env (w : Word) : (s.setAf w).env = s.env := rfl
@[simp] theorem State.setAf_ppuEpoch (w : Word) : (s.setAf w).ppuEpoch = s.ppuEpoch := rfl

@[simp] theorem State.setIf_a (v : Byte) : (s.setIf v).a = s.a := rfl
@[simp] theorem State.setIf_b (v : Byte) : (s.setIf v).b = s.b := rfl
@[simp] theorem State.setIf_c (v : Byte) : (s.setIf v).c = s.c := rfl
@[simp] theorem State.setIf_d (v : Byte) : (s.setIf v).d = s.d := rfl
@[simp] theorem State.setIf_e (v : Byte) : (s.setIf v).e = s.e := rfl
@[simp] theorem State.setIf_h (v : Byte) : (s.setIf v).h = s.h := rfl
@[simp] theorem State.setIf_l (v : Byte) : (s.setIf v).l = s.l := rfl
@[simp] theorem State.setIf_f (v : Byte) : (s.setIf v).f = s.f := rfl
@[simp] theorem State.setIf_sp (v : Byte) : (s.setIf v).sp = s.sp := rfl
@[simp] theorem State.setIf_pc (v : Byte) : (s.setIf v).pc = s.pc := rfl
@[simp] theorem State.setIf_ime (v : Byte) : (s.setIf v).ime = s.ime := rfl
@[simp] theorem State.setIf_imePending (v : Byte) : (s.setIf v).imePending = s.imePending := rfl
@[simp] theorem State.setIf_halted (v : Byte) : (s.setIf v).halted = s.halted := rfl
@[simp] theorem State.setIf_stopped (v : Byte) : (s.setIf v).stopped = s.stopped := rfl
@[simp] theorem State.setIf_ie (v : Byte) : (s.setIf v).ie = s.ie := rfl
@[simp] theorem State.setIf_romBank (v : Byte) : (s.setIf v).romBank = s.romBank := rfl
@[simp] theorem State.setIf_eramBank (v : Byte) : (s.setIf v).eramBank = s.eramBank := rfl
@[simp] theorem State.setIf_wramBank (v : Byte) : (s.setIf v).wramBank = s.wramBank := rfl
@[simp] theorem State.setIf_vramBank (v : Byte) : (s.setIf v).vramBank = s.vramBank := rfl
@[simp] theorem State.setIf_ramEnable (v : Byte) : (s.setIf v).ramEnable = s.ramEnable := rfl
@[simp] theorem State.setIf_bankingMode (v : Byte) : (s.setIf v).bankingMode = s.bankingMode := rfl
@[simp] theorem State.setIf_cycles (v : Byte) : (s.setIf v).cycles = s.cycles := rfl
@[simp] theorem State.setIf_vram (v : Byte) : (s.setIf v).vram = s.vram := rfl
@[simp] theorem State.setIf_eram (v : Byte) : (s.setIf v).eram = s.eram := rfl
@[simp] theorem State.setIf_wram (v : Byte) : (s.setIf v).wram = s.wram := rfl
@[simp] theorem State.setIf_oam (v : Byte) : (s.setIf v).oam = s.oam := rfl
@[simp] theorem State.setIf_hram (v : Byte) : (s.setIf v).hram = s.hram := rfl
@[simp] theorem State.setIf_io (v : Byte) : (s.setIf v).io = Memory.write s.io 0x0F v := rfl
@[simp] theorem State.setIf_dpad (v : Byte) : (s.setIf v).dpad = s.dpad := rfl
@[simp] theorem State.setIf_buttons (v : Byte) : (s.setIf v).buttons = s.buttons := rfl
@[simp] theorem State.setIf_cart (v : Byte) : (s.setIf v).cart = s.cart := rfl
@[simp] theorem State.setIf_params (v : Byte) : (s.setIf v).params = s.params := rfl
@[simp] theorem State.setIf_env (v : Byte) : (s.setIf v).env = s.env := rfl
@[simp] theorem State.setIf_ppuEpoch (v : Byte) : (s.setIf v).ppuEpoch = s.ppuEpoch := rfl

@[simp] theorem popState_a : (popState s).a = s.a := rfl
@[simp] theorem popState_b : (popState s).b = s.b := rfl
@[simp] theorem popState_c : (popState s).c = s.c := rfl
@[simp] theorem popState_d : (popState s).d = s.d := rfl
@[simp] theorem popState_e : (popState s).e = s.e := rfl
@[simp] theorem popState_h : (popState s).h = s.h := rfl
@[simp] theorem popState_l : (popState s).l = s.l := rfl
@[simp] theorem popState_f : (popState s).f = s.f := rfl
@[simp] theorem popState_sp : (popState s).sp = s.sp + 2 := rfl
@[simp] theorem popState_pc : (popState s).pc = s.pc := rfl
@[simp] theorem popState_ime : (popState s).ime = s.ime := rfl
@[simp] theorem popState_imePending : (popState s).imePending = s.imePending := rfl
@[simp] theorem popState_halted : (popState s).halted = s.halted := rfl
@[simp] theorem popState_stopped : (popState s).stopped = s.stopped := rfl
@[simp] theorem popState_ie : (popState s).ie = s.ie := rfl
@[simp] theorem popState_romBank : (popState s).romBank = s.romBank := rfl
@[simp] theorem popState_eramBank : (popState s).eramBank = s.eramBank := rfl
@[simp] theorem popState_wramBank : (popState s).wramBank = s.wramBank := rfl
@[simp] theorem popState_vramBank : (popState s).vramBank = s.vramBank := rfl
@[simp] theorem popState_ramEnable : (popState s).ramEnable = s.ramEnable := rfl
@[simp] theorem popState_bankingMode : (popState s).bankingMode = s.bankingMode := rfl
@[simp] theorem popState_cycles : (popState s).cycles = s.cycles := rfl
@[simp] theorem popState_vram : (popState s).vram = s.vram := rfl
@[simp] theorem popState_eram : (popState s).eram = s.eram := rfl
@[simp] theorem popState_wram : (popState s).wram = s.wram := rfl
@[simp] theorem popState_oam : (popState s).oam = s.oam := rfl
@[simp] theorem popState_hram : (popState s).hram = s.hram := rfl
@[simp] theorem popState_io : (popState s).io = s.io := rfl
@[simp] theorem popState_dpad : (popState s).dpad = s.dpad := rfl
@[simp] theorem popState_buttons : (popState s).buttons = s.buttons := rfl
@[simp] theorem popState_cart : (popState s).cart = s.cart := rfl
@[simp] theorem popState_params : (popState s).params = s.params := rfl
@[simp] theorem popState_env : (popState s).env = s.env := rfl
@[simp] theorem popState_ppuEpoch : (popState s).ppuEpoch = s.ppuEpoch := rfl

/-- The bus part of `s` with the processor part of `t`: the registers, flags, control bits, counters and inputs that no bus access writes
and, but for the joypad bytes, none reads. -/
def State.withCpu (s t : State) : State :=
  { s with a := t.a, b := t.b, c := t.c, d := t.d, e := t.e, h := t.h, l := t.l, f := t.f, sp := t.sp, pc := t.pc, ime := t.ime,
           imePending := t.imePending, halted := t.halted, stopped := t.stopped, cycles := t.cycles, params := t.params, env := t.env }

@[simp] theorem State.withCpu_a : (s.withCpu t).a = t.a := rfl
@[simp] theorem State.withCpu_b : (s.withCpu t).b = t.b := rfl
@[simp] theorem State.withCpu_c : (s.withCpu t).c = t.c := rfl
@[simp] theorem State.withCpu_d : (s.withCpu t).d = t.d := rfl
@[simp] theorem State.withCpu_e : (s.withCpu t).e = t.e := rfl
@[simp] theorem State.withCpu_h : (s.withCpu t).h = t.h := rfl
@[simp] theorem State.withCpu_l : (s.withCpu t).l = t.l := rfl
@[simp] theorem State.withCpu_f : (s.withCpu t).f = t.f := rfl
@[simp] theorem State.withCpu_sp : (s.withCpu t).sp = t.sp := rfl
@[simp] theorem State.withCpu_pc : (s.withCpu t).pc = t.pc := rfl
@[simp] theorem State.withCpu_ime : (s.withCpu t).ime = t.ime := rfl
@[simp] theorem State.withCpu_imePending : (s.withCpu t).imePending = t.imePending := rfl
@[simp] theorem State.withCpu_halted : (s.withCpu t).halted = t.halted := rfl
@[simp] theorem State.withCpu_stopped : (s.withCpu t).stopped = t.stopped := rfl
@[simp] theorem State.withCpu_ie : (s.withCpu t).ie = s.ie := rfl
@[simp] theorem State.withCpu_romBank : (s.withCpu t).romBank = s.romBank := rfl
@[simp] theorem State.withCpu_eramBank : (s.withCpu t).eramBank = s.eramBank := rfl
@[simp] theorem State.withCpu_wramBank : (s.withCpu t).wramBank = s.wramBank := rfl
@[simp] theorem State.withCpu_vramBank : (s.withCpu t).vramBank = s.vramBank := rfl
@[simp] theorem State.withCpu_ramEnable : (s.withCpu t).ramEnable = s.ramEnable := rfl
@[simp] theorem State.withCpu_bankingMode : (s.withCpu t).bankingMode = s.bankingMode := rfl
@[simp] theorem State.withCpu_cycles : (s.withCpu t).cycles = t.cycles := rfl
@[simp] theorem State.withCpu_vram : (s.withCpu t).vram = s.vram := rfl
@[simp] theorem State.withCpu_eram : (s.withCpu t).eram = s.eram := rfl
@[simp] theorem State.withCpu_wram : (s.withCpu t).wram = s.wram := rfl
@[simp] theorem State.withCpu_oam : (s.withCpu t).oam = s.oam := rfl
@[simp] theorem State.withCpu_hram : (s.withCpu t).hram = s.hram := rfl
@[simp] theorem State.withCpu_io : (s.withCpu t).io = s.io := rfl
@[simp] theorem State.withCpu_dpad : (s.withCpu t).dpad = s.dpad := rfl
@[simp] theorem State.withCpu_buttons : (s.withCpu t).buttons = s.buttons := rfl
@[simp] theorem State.withCpu_cart : (s.withCpu t).cart = s.cart := rfl
@[simp] theorem State.withCpu_params : (s.withCpu t).params = t.params := rfl
@[simp] theorem State.withCpu_env : (s.withCpu t).env = t.env := rfl
@[simp] theorem State.withCpu_ppuEpoch : (s.withCpu t).ppuEpoch = s.ppuEpoch := rfl

@[simp] theorem State.withCpu_self : s.withCpu s = s := rfl

@[simp] theorem State.withCpu_withCpu (u : State) : (s.withCpu t).withCpu u = s.withCpu u := rfl

theorem State.withCpu_advance (n : Nat) : s.withCpu (s.advance n) = s.advance n := rfl

theorem State.withCpu_setFlags (v : Flags) : s.withCpu (s.setFlags v) = s.setFlags v := rfl

end Sys2Proof.Machine
end

