-- ==== Sys2Proof/Laws/Bus.lean ====
section
/-! SUPPORT. What a bus access can do: it neither reads nor writes the processor's part of the state; where a write goes; what it
leaves alone; and that the memories stay canonical and within their sizes. -/

namespace Sys2Proof.Machine

variable (s t : State) (addr : Word) (v : Byte)

/-! ### The bus and the processor's part -/

theorem locate_withCpu : locate (s.withCpu t) addr = locate s addr := rfl

@[simp] theorem read8_withCpu : read8 (s.withCpu t) addr = read8 s addr := by
  unfold read8
  rw [locate_withCpu]
  cases locate s addr <;> rfl

@[simp] theorem read16_withCpu : read16 (s.withCpu t) addr = read16 s addr := by
  simp [read16]

theorem bankWrite_withCpu (n : Nat) : bankWrite (s.withCpu t) n v = (bankWrite s n v).withCpu t := by
  have hcart : (s.withCpu t).cart.mbc = s.cart.mbc := rfl
  have hmode : (s.withCpu t).bankingMode = s.bankingMode := rfl
  unfold bankWrite mbc1Write mbc2Write mbc3Write mbc5Write
  rw [hcart, hmode]
  split <;> (try split) <;> (try split) <;> (try split) <;> (try split) <;> rfl

theorem dmaCopy_withCpu (k : Nat) : dmaCopy v k (s.withCpu t) = (dmaCopy v k s).withCpu t := by
  induction k with
  | zero => rfl
  | succ k ih =>
    simp only [dmaCopy, ih, dmaByte, read8_withCpu]
    rfl

/-- The state a PPU register write leaves, for a copy of `n` bytes: `ppuWrite` is the case of 160. -/
theorem dmaThenEpoch_withCpu (n k : Nat) :
    { (if k = 0x46 then dmaCopy v n (s.withCpu t) else s.withCpu t) with
      ppuEpoch := (if k = 0x46 then dmaCopy v n (s.withCpu t) else s.withCpu t).ppuEpoch + 1 } =
    State.withCpu { (if k = 0x46 then dmaCopy v n s else s) with
      ppuEpoch := (if k = 0x46 then dmaCopy v n s else s).ppuEpoch + 1 } t := by
  rw [dmaCopy_withCpu]
  split <;> rfl

theorem ppuWrite_withCpu (k : Nat) : ppuWrite (s.withCpu t) k v = (ppuWrite s k v).withCpu t :=
  dmaThenEpoch_withCpu s t v 160 k

theorem writeLoc_withCpu (loc : Loc) : writeLoc (s.withCpu t) loc v = (writeLoc s loc v).withCpu t := by
  cases loc with
  | ppu k => exact ppuWrite_withCpu s t v k
  | _ => rfl

theorem write8_withCpu : write8 (s.withCpu t) addr v = (write8 s addr v).withCpu t := by
  unfold write8
  split
  · exact bankWrite_withCpu s t v _
  · rw [locate_withCpu]; exact writeLoc_withCpu s t v _

theorem write16_withCpu (w : Word) : write16 (s.withCpu t) addr w = (write16 s addr w).withCpu t := by
  simp only [write16, write8_withCpu]

/-- A byte write leaves the processor's part as it was. -/
theorem write8_keeps_cpu : (write8 s addr v).withCpu s = write8 s addr v := by
  conv_rhs => rw [← State.withCpu_self s]
  exact (write8_withCpu s s addr v).symm

theorem write16_keeps_cpu (w : Word) : (write16 s addr w).withCpu s = write16 s addr w := by
  conv_rhs => rw [← State.withCpu_self s]
  exact (write16_withCpu s s addr w).symm

theorem read8_advance (n : Nat) : read8 (s.advance n) addr = read8 s addr := by
  rw [← State.withCpu_advance]; simp

theorem write8_advance (n : Nat) : write8 (s.advance n) addr v = (write8 s addr v).advance n := by
  rw [← State.withCpu_advance, write8_withCpu, ← write8_keeps_cpu s addr v]; rfl

theorem write8_setFlags (f : Flags) : write8 (s.setFlags f) addr v = (write8 s addr v).setFlags f := by
  rw [← State.withCpu_setFlags, write8_withCpu, ← write8_keeps_cpu s addr v]; rfl

@[simp] theorem write8_a : (write8 s addr v).a = s.a := by rw [← write8_keeps_cpu]; rfl
@[simp] theorem write8_b : (write8 s addr v).b = s.b := by rw [← write8_keeps_cpu]; rfl
@[simp] theorem write8_c : (write8 s addr v).c = s.c := by rw [← write8_keeps_cpu]; rfl
@[simp] theorem write8_d : (write8 s addr v).d = s.d := by rw [← write8_keeps_cpu]; rfl
@[simp] theorem write8_e : (write8 s addr v).e = s.e := by rw [← write8_keeps_cpu]; rfl
@[simp] theorem write8_h : (write8 s addr v).h = s.h := by rw [← write8_keeps_cpu]; rfl
@[simp] theorem write8_l : (write8 s addr v).l = s.l := by rw [← write8_keeps_cpu]; rfl
@[simp] theorem write8_f : (write8 s addr v).f = s.f := by rw [← write8_keeps_cpu]; rfl
@[simp] theorem write8_sp : (write8 s addr v).sp = s.sp := by rw [← write8_keeps_cpu]; rfl
@[simp] theorem write8_pc : (write8 s addr v).pc = s.pc := by rw [← write8_keeps_cpu]; rfl
@[simp] theorem write8_ime : (write8 s addr v).ime = s.ime := by rw [← write8_keeps_cpu]; rfl
@[simp] theorem write8_imePending : (write8 s addr v).imePending = s.imePending := by rw [← write8_keeps_cpu]; rfl
@[simp] theorem write8_halted : (write8 s addr v).halted = s.halted := by rw [← write8_keeps_cpu]; rfl
@[simp] theorem write8_stopped : (write8 s addr v).stopped = s.stopped := by rw [← write8_keeps_cpu]; rfl
@[simp] theorem write8_cycles : (write8 s addr v).cycles = s.cycles := by rw [← write8_keeps_cpu]; rfl
@[simp] theorem write8_params : (write8 s addr v).params = s.params := by rw [← write8_keeps_cpu]; rfl
@[simp] theorem write8_env : (write8 s addr v).env = s.env := by rw [← write8_keeps_cpu]; rfl

@[simp] theorem write16_a (w : Word) : (write16 s addr w).a = s.a := by rw [← write16_keeps_cpu]; rfl
@[simp] theorem write16_b (w : Word) : (write16 s addr w).b = s.b := by rw [← write16_keeps_cpu]; rfl
@[simp] theorem write16_c (w : Word) : (write16 s addr w).c = s.c := by rw [← write16_keeps_cpu]; rfl
@[simp] theorem write16_d (w : Word) : (write16 s addr w).d = s.d := by rw [← write16_keeps_cpu]; rfl
@[simp] theorem write16_e (w : Word) : (write16 s addr w).e = s.e := by rw [← write16_keeps_cpu]; rfl
@[simp] theorem write16_h (w : Word) : (write16 s addr w).h = s.h := by rw [← write16_keeps_cpu]; rfl
@[simp] theorem write16_l (w : Word) : (write16 s addr w).l = s.l := by rw [← write16_keeps_cpu]; rfl
@[simp] theorem write16_f (w : Word) : (write16 s addr w).f = s.f := by rw [← write16_keeps_cpu]; rfl
@[simp] theorem write16_sp (w : Word) : (write16 s addr w).sp = s.sp := by rw [← write16_keeps_cpu]; rfl
@[simp] theorem write16_pc (w : Word) : (write16 s addr w).pc = s.pc := by rw [← write16_keeps_cpu]; rfl
@[simp] theorem write16_ime (w : Word) : (write16 s addr w).ime = s.ime := by rw [← write16_keeps_cpu]; rfl
@[simp] theorem write16_imePending (w : Word) : (write16 s addr w).imePending = s.imePending := by rw [← write16_keeps_cpu]; rfl
@[simp] theorem write16_halted (w : Word) : (write16 s addr w).halted = s.halted := by rw [← write16_keeps_cpu]; rfl
@[simp] theorem write16_stopped (w : Word) : (write16 s addr w).stopped = s.stopped := by rw [← write16_keeps_cpu]; rfl
@[simp] theorem write16_cycles (w : Word) : (write16 s addr w).cycles = s.cycles := by rw [← write16_keeps_cpu]; rfl
@[simp] theorem write16_params (w : Word) : (write16 s addr w).params = s.params := by rw [← write16_keeps_cpu]; rfl
@[simp] theorem write16_env (w : Word) : (write16 s addr w).env = s.env := by rw [← write16_keeps_cpu]; rfl

/-! ### What no bus access changes on the board -/

/-- The board's fixed part: the cartridge, the CGB banks and the joypad input bytes. -/
def SameBoard (s t : State) : Prop :=
  t.cart = s.cart ∧ t.wramBank = s.wramBank ∧ t.vramBank = s.vramBank ∧ t.dpad = s.dpad ∧ t.buttons = s.buttons

theorem bankWrite_sameBoard (n : Nat) : SameBoard s (bankWrite s n v) := by
  unfold bankWrite mbc1Write mbc2Write mbc3Write mbc5Write
  split <;> (try split) <;> (try split) <;> (try split) <;> (try split) <;> exact ⟨rfl, rfl, rfl, rfl, rfl⟩

/-- OAM DMA writes OAM and nothing else. -/
theorem dmaCopy_only_oam (k : Nat) : ∃ o, dmaCopy v k s = { s with oam := o } := by
  induction k with
  | zero => exact ⟨s.oam, rfl⟩
  | succ k ih =>
    obtain ⟨o, ho⟩ := ih
    simp only [dmaCopy, dmaByte, ho]
    exact ⟨_, rfl⟩

/-- A write to a PPU register leaves everything but OAM and the counter of the free answers. -/
theorem ppuWrite_only (k : Nat) : ∃ o, ppuWrite s k v = { s with oam := o, ppuEpoch := s.ppuEpoch + 1 } := by
  obtain ⟨o, ho⟩ := dmaCopy_only_oam s v 160
  unfold ppuWrite
  split
  · rw [ho]; exact ⟨o, rfl⟩
  · exact ⟨s.oam, rfl⟩

theorem writeLoc_sameBoard (loc : Loc) : SameBoard s (writeLoc s loc v) := by
  cases loc with
  | ppu k =>
    obtain ⟨o, ho⟩ := ppuWrite_only s v k
    simp only [writeLoc, ho]
    exact ⟨rfl, rfl, rfl, rfl, rfl⟩
  | _ => exact ⟨rfl, rfl, rfl, rfl, rfl⟩

theorem write8_sameBoard : SameBoard s (write8 s addr v) := by
  unfold write8
  split
  · exact bankWrite_sameBoard s v _
  · exact writeLoc_sameBoard s v _

@[simp] theorem write8_cart : (write8 s addr v).cart = s.cart := (write8_sameBoard s addr v).1
@[simp] theorem write8_wramBank : (write8 s addr v).wramBank = s.wramBank := (write8_sameBoard s addr v).2.1
@[simp] theorem write8_vramBank : (write8 s addr v).vramBank = s.vramBank := (write8_sameBoard s addr v).2.2.1
@[simp] theorem write8_dpad : (write8 s addr v).dpad = s.dpad := (write8_sameBoard s addr v).2.2.2.1
@[simp] theorem write8_buttons : (write8 s addr v).buttons = s.buttons := (write8_sameBoard s addr v).2.2.2.2
@[simp] theorem write16_cart (w : Word) : (write16 s addr w).cart = s.cart := by simp [write16]
@[simp] theorem write16_wramBank (w : Word) : (write16 s addr w).wramBank = s.wramBank := by simp [write16]
@[simp] theorem write16_vramBank (w : Word) : (write16 s addr w).vramBank = s.vramBank := by simp [write16]
@[simp] theorem write16_dpad (w : Word) : (write16 s addr w).dpad = s.dpad := by simp [write16]
@[simp] theorem write16_buttons (w : Word) : (write16 s addr w).buttons = s.buttons := by simp [write16]

/-! ### Where an address leads -/

/-- The location is an element its array has. -/
def Loc.inRange (s : State) : Loc → Prop
  | .rom k => k < s.cart.romSize
  | .vram k => k < 0x4000
  | .eram k => k < s.cart.eramSize
  | .wram k => k < 0x8000
  | .oam k => k < 160
  | .io k => k < 128 ∧ k ≠ 0 ∧ ¬ (0x40 ≤ k ∧ k ≤ 0x4B)
  | .ppu k => 0x40 ≤ k ∧ k ≤ 0x4B
  | .hram k => k < 127
  | .joyp | .ie | .unmapped => True

theorem romLoc_inRange (k : Nat) : (romLoc s k).inRange s := by
  unfold romLoc
  split <;> simp_all [Loc.inRange]

theorem eramLoc_inRange (n : Nat) : (eramLoc s n).inRange s := by
  simp only [eramLoc]
  split
  · simp_all [Loc.inRange]
  · trivial

theorem wramLoc_inRange {n : Nat} (h : n < 0xE000) : (wramLoc s n).inRange s := by
  have := s.wramBank.isLt
  unfold wramLoc
  split <;> simp only [Loc.inRange] <;> omega

theorem ioLoc_inRange {k : Nat} (h : k < 0x80) : (ioLoc k).inRange s := by
  unfold ioLoc
  split
  · trivial
  · split <;> simp_all [Loc.inRange]

/-- Every address leads to an element its array has (20_memory.md R51: the ranges partition the space). -/
theorem locate_inRange : (locate s addr).inRange s := by
  have := s.vramBank.isLt
  have := addr.isLt
  simp only [locate]
  split
  · exact romLoc_inRange s _
  split
  · exact romLoc_inRange s _
  split
  · simp only [Loc.inRange]; omega
  split
  · exact eramLoc_inRange s _
  split
  · rename_i h; exact wramLoc_inRange s h
  split
  · generalize hn : addr.toNat - 0x2000 = n
    exact wramLoc_inRange s (by omega)
  split
  · simp only [Loc.inRange]; omega
  split
  · trivial
  split
  · generalize hk : addr.toNat - 0xFF00 = k
    exact ioLoc_inRange s (by omega)
  split
  · simp only [Loc.inRange]; omega
  · trivial

/-- Two states route addresses alike. -/
def SameMap (s t : State) : Prop :=
  t.cart = s.cart ∧ t.romBank = s.romBank ∧ t.eramBank = s.eramBank ∧ t.wramBank = s.wramBank ∧ t.vramBank = s.vramBank ∧
  t.ramEnable = s.ramEnable

theorem locate_of_sameMap {s t : State} (h : SameMap s t) : locate t addr = locate s addr := by
  obtain ⟨h1, h2, h3, h4, h5, h6⟩ := h
  unfold locate romLoc eramLoc wramLoc rtcSelected
  rw [h1, h2, h3, h4, h5, h6]

theorem writeLoc_sameMap (loc : Loc) : SameMap s (writeLoc s loc v) := by
  cases loc with
  | ppu k =>
    obtain ⟨o, ho⟩ := ppuWrite_only s v k
    simp only [writeLoc, ho]
    exact ⟨rfl, rfl, rfl, rfl, rfl, rfl⟩
  | _ => exact ⟨rfl, rfl, rfl, rfl, rfl, rfl⟩

/-- A data write changes no bank selection. -/
theorem write8_sameMap {addr : Word} (h : 0x8000 ≤ addr.toNat) : SameMap s (write8 s addr v) := by
  unfold write8
  rw [if_neg (by omega)]
  exact writeLoc_sameMap s v _

/-- An address below 0x8000 leads to the cartridge image or nowhere. -/
theorem locate_low {addr : Word} (h : addr.toNat < 0x8000) : (∃ k, locate s addr = .rom k) ∨ locate s addr = .unmapped := by
  simp only [locate, romLoc]
  split
  · split
    · exact .inl ⟨_, rfl⟩
    · exact .inr rfl
  · split
    · exact .inl ⟨_, rfl⟩
    · exact .inr rfl

/-- Only addresses below 0x8000 lead to the cartridge image. -/
theorem locate_high_ne_rom {addr : Word} (h : 0x8000 ≤ addr.toNat) (k : Nat) : locate s addr ≠ .rom k := by
  simp only [locate]
  rw [if_neg (by omega), if_neg (by omega)]
  simp only [eramLoc, wramLoc, ioLoc]
  repeat' split
  all_goals simp

/-! ### Reads after writes -/

theorem State.memoryOk_iff : s.memoryOk = true ↔
    s.cart.rom.wf = true ∧ s.cart.rom.within s.cart.romSize = true ∧ s.vram.wf = true ∧ s.vram.within 0x4000 = true ∧
    s.eram.wf = true ∧ s.eram.within s.cart.eramSize = true ∧ s.wram.wf = true ∧ s.wram.within 0x8000 = true ∧
    s.oam.wf = true ∧ s.oam.within 160 = true ∧ s.hram.wf = true ∧ s.hram.within 127 = true ∧
    s.io.wf = true ∧ s.io.within 128 = true := by
  simp [State.memoryOk, and_assoc]

/-- The location is storage the core can write and read back. -/
def Loc.stores : Loc → Bool
  | .vram _ | .eram _ | .wram _ | .oam _ | .io _ | .hram _ | .ie => true
  | .rom _ | .joyp | .ppu _ | .unmapped => false

variable {s} in
theorem readLoc_writeLoc_same {loc : Loc} (hm : s.memoryOk = true) (hs : loc.stores = true) :
    readLoc (writeLoc s loc v) loc = v := by
  obtain ⟨-, -, h3, -, h5, -, h7, -, h9, -, h11, -, h13, -⟩ := (State.memoryOk_iff s).1 hm
  cases loc <;> simp_all [writeLoc, readLoc, Loc.stores, Memory.read_write_same]

/-- The write to `loc` may change what `loc'` reads as although they are different locations: a PPU register write may change every PPU
answer, the one to 0xFF46 changes OAM, and one to 0xFF00 stores the selection byte `io[0]`, which no address shows raw. -/
def Loc.disturbs : Loc → Loc → Prop
  | .ppu _, .ppu _ => True
  | .ppu k, .oam _ => k = 0x46
  | .joyp, .io k => k = 0
  | _, _ => False

theorem joypadValue_congr {s t : State} (h1 : Memory.read t.io 0 = Memory.read s.io 0) (h2 : t.dpad = s.dpad)
    (h3 : t.buttons = s.buttons) : joypadValue t = joypadValue s := by
  simp only [joypadValue, h1, h2, h3]

theorem ppuWrite_oam {k : Nat} (h : k ≠ 0x46) : (ppuWrite s k v).oam = s.oam := by
  unfold ppuWrite
  rw [if_neg h]

variable {s} in
/-- A data write leaves every other location alone that it does not disturb, in whatever bank. -/
theorem readLoc_writeLoc_other {loc loc' : Loc} (hm : s.memoryOk = true) (hr : loc.inRange s) (hne : loc' ≠ loc)
    (hd : ¬ loc.disturbs loc') : readLoc (writeLoc s loc v) loc' = readLoc s loc' := by
  obtain ⟨-, -, h3, -, h5, -, h7, -, h9, -, h11, -, h13, -⟩ := (State.memoryOk_iff s).1 hm
  cases loc with
  | rom | unmapped => rfl
  | vram k => cases loc' <;> first | rfl | exact Memory.read_write_other h3 (by simpa using hne)
  | eram k => cases loc' <;> first | rfl | exact Memory.read_write_other h5 (by simpa using hne)
  | wram k => cases loc' <;> first | rfl | exact Memory.read_write_other h7 (by simpa using hne)
  | oam k => cases loc' <;> first | rfl | exact Memory.read_write_other h9 (by simpa using hne)
  | hram k => cases loc' <;> first | rfl | exact Memory.read_write_other h11 (by simpa using hne)
  | ie => cases loc' <;> first | rfl | simp at hne
  | joyp =>
    cases loc' with
    | joyp => simp at hne
    | io k => exact Memory.read_write_other h13 hd
    | _ => rfl
  | io k =>
    cases loc' with
    | joyp =>
      exact joypadValue_congr (Memory.read_write_other h13 (Ne.symm hr.2.1)) rfl rfl
    | io k' => exact Memory.read_write_other h13 (by simpa using hne)
    | _ => rfl
  | ppu k =>
    obtain ⟨o, ho⟩ := ppuWrite_only s v k
    simp only [writeLoc, ho]
    cases loc' with
    | ppu => exact absurd trivial hd
    | oam k' =>
      have hoam := ppuWrite_oam s v (k := k) hd
      rw [ho] at hoam
      simp only at hoam
      simp only [readLoc, hoam]
    | _ => rfl

/-- A data write leaves every address alone that leads elsewhere, but for PPU registers and OAM after a PPU register write. -/
theorem read8_write8_other {s : State} {addr addr' : Word} {v : Byte} (hm : s.memoryOk = true) (ha : 0x8000 ≤ addr.toNat)
    (hne : locate s addr' ≠ locate s addr) (hd : ¬ (locate s addr).disturbs (locate s addr')) :
    read8 (write8 s addr v) addr' = read8 s addr' := by
  unfold read8
  rw [locate_of_sameMap addr' (write8_sameMap s v ha)]
  unfold write8
  rw [if_neg (by omega)]
  exact readLoc_writeLoc_other v hm (locate_inRange s _) hne hd

/-- A byte written to storage reads back. -/
theorem read8_write8_same {s : State} {addr : Word} {v : Byte} (hm : s.memoryOk = true) (ha : 0x8000 ≤ addr.toNat)
    (hs : (locate s addr).stores = true) : read8 (write8 s addr v) addr = v := by
  unfold read8
  rw [locate_of_sameMap addr (write8_sameMap s v ha)]
  unfold write8
  rw [if_neg (by omega)]
  exact readLoc_writeLoc_same v hm hs

/-- Storage lies at 0x8000 and above. -/
theorem high_of_stores {s : State} {addr : Word} (hs : (locate s addr).stores = true) : 0x8000 ≤ addr.toNat := by
  by_contra h
  rcases locate_low s (addr := addr) (by omega) with ⟨k, hk⟩ | hk <;> simp [hk, Loc.stores] at hs

/-! ### The memories stay canonical and within their sizes -/

/-- A bank-register write changes bank registers only. -/
theorem bankWrite_only (n : Nat) : ∃ rb eb re bm, bankWrite s n v =
    { s with romBank := rb, eramBank := eb, ramEnable := re, bankingMode := bm } := by
  unfold bankWrite mbc1Write mbc2Write mbc3Write mbc5Write
  split <;> (try split) <;> (try split) <;> (try split) <;> (try split) <;> exact ⟨_, _, _, _, rfl⟩

theorem dmaCopy_oam_ok {k : Nat} (hk : k ≤ 160) (h1 : s.oam.wf = true) (h2 : s.oam.within 160 = true) :
    (dmaCopy v k s).oam.wf = true ∧ (dmaCopy v k s).oam.within 160 = true := by
  induction k with
  | zero => exact ⟨h1, h2⟩
  | succ k ih =>
    have := ih (by omega)
    exact ⟨Memory.write_wf this.1, Memory.write_within this.2 (by omega)⟩

theorem ppuWrite_oam_ok (k : Nat) (h1 : s.oam.wf = true) (h2 : s.oam.within 160 = true) :
    (ppuWrite s k v).oam.wf = true ∧ (ppuWrite s k v).oam.within 160 = true := by
  have hok := dmaCopy_oam_ok s v (k := 160) (Nat.le_refl _) h1 h2
  obtain ⟨o, ho⟩ := dmaCopy_only_oam s v 160
  unfold ppuWrite
  rw [ho] at hok ⊢
  split
  · exact hok
  · exact ⟨h1, h2⟩

theorem writeLoc_memoryOk {s : State} {loc : Loc} {v : Byte} (hm : s.memoryOk = true) (hr : loc.inRange s) :
    (writeLoc s loc v).memoryOk = true := by
  rw [State.memoryOk_iff] at hm ⊢
  obtain ⟨h1, h2, h3, h4, h5, h6, h7, h8, h9, h10, h11, h12, h13, h14⟩ := hm
  cases loc with
  | ppu k =>
    obtain ⟨ho1, ho2⟩ := ppuWrite_oam_ok s v k h9 h10
    obtain ⟨o, ho⟩ := ppuWrite_only s v k
    simp only [writeLoc]
    rw [ho] at ho1 ho2 ⊢
    exact ⟨h1, h2, h3, h4, h5, h6, h7, h8, ho1, ho2, h11, h12, h13, h14⟩
  | rom | unmapped | ie => exact ⟨h1, h2, h3, h4, h5, h6, h7, h8, h9, h10, h11, h12, h13, h14⟩
  | vram k => exact ⟨h1, h2, Memory.write_wf h3, Memory.write_within h4 hr, h5, h6, h7, h8, h9, h10, h11, h12, h13, h14⟩
  | eram k => exact ⟨h1, h2, h3, h4, Memory.write_wf h5, Memory.write_within h6 hr, h7, h8, h9, h10, h11, h12, h13, h14⟩
  | wram k => exact ⟨h1, h2, h3, h4, h5, h6, Memory.write_wf h7, Memory.write_within h8 hr, h9, h10, h11, h12, h13, h14⟩
  | oam k => exact ⟨h1, h2, h3, h4, h5, h6, h7, h8, Memory.write_wf h9, Memory.write_within h10 hr, h11, h12, h13, h14⟩
  | hram k => exact ⟨h1, h2, h3, h4, h5, h6, h7, h8, h9, h10, Memory.write_wf h11, Memory.write_within h12 hr, h13, h14⟩
  | joyp =>
    exact ⟨h1, h2, h3, h4, h5, h6, h7, h8, h9, h10, h11, h12, Memory.write_wf h13, Memory.write_within h14 (by decide)⟩
  | io k => exact ⟨h1, h2, h3, h4, h5, h6, h7, h8, h9, h10, h11, h12, Memory.write_wf h13, Memory.write_within h14 hr.1⟩

theorem write8_memoryOk {s : State} (hm : s.memoryOk = true) (addr : Word) (v : Byte) : (write8 s addr v).memoryOk = true := by
  unfold write8
  split
  · obtain ⟨rb, eb, re, bm, h⟩ := bankWrite_only s v addr.toNat
    rw [h]; exact hm
  · exact writeLoc_memoryOk hm (locate_inRange s addr)

/-! ### The bank registers stay in range -/

theorem promoted_five : ∀ v : Byte, (promoted v 0x1F).toNat % 32 ≠ 0 ∧ (promoted v 0x1F).toNat < 32 := by decide

theorem promoted_four : ∀ v : Byte, promoted v 0x0F ≠ 0 ∧ (promoted v 0x0F).toNat < 16 := by decide

theorem promoted_seven : ∀ v : Byte, promoted v 0x7F ≠ 0 ∧ (promoted v 0x7F).toNat < 128 := by decide

/-- The low five bits of an MBC1 bank replaced, bits 6 and 5 kept. -/
theorem mbc1_low_bits (b : BitVec 9) (v : Byte) :
    ((b &&& 0x60) ||| promoted v 0x1F).toNat % 32 ≠ 0 ∧ ((b &&& 0x60) ||| promoted v 0x1F).toNat < 128 := by
  obtain ⟨h1, h2⟩ := promoted_five v
  generalize promoted v 0x1F = p at h1 h2
  have hand : (b &&& 0x60).toNat % 32 = 0 ∧ (b &&& 0x60).toNat < 128 := by
    revert b; decide
  have hor : ((b &&& 0x60) ||| p).toNat % 32 = p.toNat % 32 := by
    rw [BitVec.toNat_or, show 32 = 2 ^ 5 from rfl, Nat.or_mod_two_pow]
    rw [hand.1, Nat.zero_or]
  refine ⟨by rw [hor]; exact h1, ?_⟩
  rw [BitVec.toNat_or]
  exact Nat.or_lt_two_pow (n := 7) hand.2 (by omega)

/-- Bits 6 and 5 of an MBC1 bank replaced, the low five bits kept. -/
theorem mbc1_high_bits (b : BitVec 9) (v : Byte) (h : b.toNat % 32 ≠ 0) :
    ((b &&& (0x1F : BitVec 9)) ||| ((v &&& 3).setWidth 9 <<< 5)).toNat % 32 ≠ 0 ∧
    ((b &&& (0x1F : BitVec 9)) ||| ((v &&& 3).setWidth 9 <<< 5)).toNat < 128 := by
  have hv : ((v &&& 3).setWidth 9 <<< 5 : BitVec 9).toNat % 32 = 0 ∧ ((v &&& 3).setWidth 9 <<< 5 : BitVec 9).toNat < 128 := by
    revert v; decide
  have hb : (b &&& (0x1F : BitVec 9)).toNat = b.toNat % 32 := by
    rw [BitVec.toNat_and]; exact Nat.and_two_pow_sub_one_eq_mod b.toNat 5
  generalize ((v &&& 3).setWidth 9 <<< 5 : BitVec 9) = p at hv
  have hor : ((b &&& 0x1F) ||| p).toNat % 32 = b.toNat % 32 := by
    rw [BitVec.toNat_or, show 32 = 2 ^ 5 from rfl, Nat.or_mod_two_pow, hb]
    rw [hv.1, Nat.or_zero, Nat.mod_mod]
    norm_num
  refine ⟨by rw [hor]; exact h, ?_⟩
  rw [BitVec.toNat_or]
  exact Nat.or_lt_two_pow (n := 7) (by omega) hv.2

theorem and_three_lt (v : Byte) : ((v &&& 3).setWidth 4 : BitVec 4).toNat < 4 := by
  revert v; decide

theorem setWidth_nine_lt (v : Byte) : (v.setWidth 9 : BitVec 9).toNat < 256 := by
  revert v; decide

theorem bankWrite_banksOk {s : State} (h : s.banksOk = true) (n : Nat) (v : Byte) : (bankWrite s n v).banksOk = true := by
  unfold bankWrite
  have hmbc : ∀ (rb : BitVec 9) (eb : BitVec 4) (re bm : Bool),
      ({ s with romBank := rb, eramBank := eb, ramEnable := re, bankingMode := bm } : State).cart.mbc = s.cart.mbc :=
    fun _ _ _ _ => rfl
  cases hk : s.cart.mbc with
  | none => exact h
  | mbc1 =>
    simp only [State.banksOk, hk, Bool.and_eq_true, decide_eq_true_eq] at h
    obtain ⟨⟨h1, h2⟩, h3⟩ := h
    simp only [mbc1Write]
    split
    · simp [State.banksOk, hk, h1, h2, h3]
    split
    · have := mbc1_low_bits s.romBank v
      simp only [State.banksOk, hk, Bool.and_eq_true, decide_eq_true_eq]
      exact ⟨this, h3⟩
    split
    · split
      · simp only [State.banksOk, hk, Bool.and_eq_true, decide_eq_true_eq]
        exact ⟨⟨h1, h2⟩, and_three_lt v⟩
      · have := mbc1_high_bits s.romBank v h1
        simp only [State.banksOk, hk, Bool.and_eq_true, decide_eq_true_eq]
        exact ⟨this, h3⟩
    · simp only [State.banksOk, hk, Bool.and_eq_true, decide_eq_true_eq]
      exact ⟨⟨h1, h2⟩, h3⟩
  | mbc2 =>
    simp only [State.banksOk, hk, Bool.and_eq_true, decide_eq_true_eq] at h
    obtain ⟨⟨⟨h1, h2⟩, h3⟩, h4⟩ := h
    have := promoted_four v
    simp only [mbc2Write]
    split
    · simp only [State.banksOk, hk, Bool.and_eq_true, decide_eq_true_eq]
      exact ⟨⟨⟨h1, h2⟩, h3⟩, h4⟩
    split
    · simp only [State.banksOk, hk, Bool.and_eq_true, decide_eq_true_eq]
      exact ⟨⟨this, h3⟩, h4⟩
    · simp only [State.banksOk, hk, Bool.and_eq_true, decide_eq_true_eq]
      exact ⟨⟨⟨h1, h2⟩, h3⟩, h4⟩
  | mbc3 =>
    simp only [State.banksOk, hk, Bool.and_eq_true, decide_eq_true_eq] at h
    have := promoted_seven v
    simp only [mbc3Write]
    split
    · simp only [State.banksOk, hk, Bool.and_eq_true, decide_eq_true_eq]
      exact h
    split
    · simp only [State.banksOk, hk, Bool.and_eq_true, decide_eq_true_eq]
      exact ⟨this, h.2⟩
    split <;>
    · simp only [State.banksOk, hk, Bool.and_eq_true, decide_eq_true_eq]
      exact h
  | mbc5 =>
    simp only [State.banksOk, hk, Bool.and_eq_true, decide_eq_true_eq] at h
    have := setWidth_nine_lt v
    simp only [mbc5Write]
    split
    · simp only [State.banksOk, hk, Bool.and_eq_true, decide_eq_true_eq]
      exact h
    split
    · simp only [State.banksOk, hk, Bool.and_eq_true, decide_eq_true_eq]
      exact ⟨this, h.2⟩
    split <;>
    · simp only [State.banksOk, hk, Bool.and_eq_true, decide_eq_true_eq]
      exact h

/-- Two states have the same bank registers. -/
theorem banksOk_congr {s t : State} (h0 : t.cart.mbc = s.cart.mbc) (h1 : t.romBank = s.romBank) (h2 : t.eramBank = s.eramBank)
    (h3 : t.ramEnable = s.ramEnable) (h4 : t.bankingMode = s.bankingMode) : t.banksOk = s.banksOk := by
  simp only [State.banksOk, h0, h1, h2, h3, h4]

theorem writeLoc_banksOk (loc : Loc) : (writeLoc s loc v).banksOk = s.banksOk := by
  cases loc with
  | ppu k =>
    obtain ⟨o, ho⟩ := ppuWrite_only s v k
    simp only [writeLoc, ho]
    exact banksOk_congr rfl rfl rfl rfl rfl
  | _ => exact banksOk_congr rfl rfl rfl rfl rfl

theorem write8_banksOk {s : State} (h : s.banksOk = true) (addr : Word) (v : Byte) : (write8 s addr v).banksOk = true := by
  unfold write8
  split
  · exact bankWrite_banksOk h _ v
  · rw [writeLoc_banksOk]; exact h

theorem write16_memoryOk {s : State} (hm : s.memoryOk = true) (addr w : Word) : (write16 s addr w).memoryOk = true :=
  write8_memoryOk (write8_memoryOk hm _ _) _ _

theorem write16_banksOk {s : State} (h : s.banksOk = true) (addr w : Word) : (write16 s addr w).banksOk = true :=
  write8_banksOk (write8_banksOk h _ _) _ _

/-! ### Which addresses lead where -/

variable {s addr}

theorem locate_oam_range {k : Nat} (h : locate s addr = .oam k) :
    0xFE00 ≤ addr.toNat ∧ addr.toNat < 0xFEA0 ∧ k = addr.toNat - 0xFE00 := by
  simp only [locate, romLoc, eramLoc, wramLoc, ioLoc] at h
  repeat' split at h
  all_goals first | (simp at h; done) | (simp at h; omega)

theorem locate_ppu_range {k : Nat} (h : locate s addr = .ppu k) : 0xFF40 ≤ addr.toNat ∧ addr.toNat ≤ 0xFF4B := by
  simp only [locate, romLoc, eramLoc, wramLoc] at h
  generalize addr.toNat = n at h
  repeat' split at h
  all_goals first | simp at h | skip
  unfold ioLoc at h
  generalize hm : n - 0xFF00 = m at h
  split at h
  · simp at h
  · split at h
    · rename_i h1; simp at h1; omega
    · simp at h

theorem locate_io_range {k : Nat} (h : locate s addr = .io k) :
    0xFF00 ≤ addr.toNat ∧ addr.toNat < 0xFF80 ∧ k = addr.toNat - 0xFF00 := by
  simp only [locate, romLoc, eramLoc, wramLoc] at h
  generalize addr.toNat = n at h ⊢
  repeat' split at h
  all_goals first | simp at h | skip
  unfold ioLoc at h
  generalize hm : n - 0xFF00 = m at h ⊢
  split at h
  · simp at h
  · split at h
    · simp at h
    · simp at h; omega

/-- A bank-register write moves only the two banked windows. -/
theorem locate_write8_low {v : Byte} {other : Word} (ha : addr.toNat < 0x8000)
    (h1 : ¬ (0x4000 ≤ other.toNat ∧ other.toNat < 0x8000)) (h2 : ¬ (0xA000 ≤ other.toNat ∧ other.toNat < 0xC000)) :
    locate (write8 s addr v) other = locate s other := by
  obtain ⟨rb, eb, re, bm, h⟩ := bankWrite_only s v addr.toNat
  have hw : write8 s addr v = bankWrite s addr.toNat v := by unfold write8; rw [if_pos ha]
  rw [hw, h]
  simp only [locate]
  by_cases h3 : other.toNat < 0x4000
  · simp only [if_pos h3]; rfl
  · have h4 : ¬ other.toNat < 0x8000 := by omega
    simp only [if_neg h3, if_neg h4]
    by_cases h5 : other.toNat < 0xA000
    · simp only [if_pos h5]
    · have h6 : ¬ other.toNat < 0xC000 := by omega
      simp only [if_neg h5, if_neg h6]; rfl

end Sys2Proof.Machine
end

