-- ==== Sys2Proof/Laws/Decode.lean ====
section
/-! SUPPORT. What the decoder does on every first byte: the instruction it yields is well-formed and as long as the opcode says. -/

namespace Sys2Proof

/-- A fact about every entry of a row holds of the entry picked. -/
theorem Row16.pick_all {P : Nat → Instr → Prop} {r : Row16} (h0 : P 0 r.x0) (h1 : P 1 r.x1) (h2 : P 2 r.x2) (h3 : P 3 r.x3)
    (h4 : P 4 r.x4) (h5 : P 5 r.x5) (h6 : P 6 r.x6) (h7 : P 7 r.x7) (h8 : P 8 r.x8) (h9 : P 9 r.x9) (hA : P 10 r.xA)
    (hB : P 11 r.xB) (hC : P 12 r.xC) (hD : P 13 r.xD) (hE : P 14 r.xE) (hF : P 15 r.xF) (k : Nat) (hk : k < 16) :
    P k (r.pick k) := by
  interval_cases k <;> assumption

/-- What the base map yields for an opcode other than the prefix: a well-formed instruction of the opcode's length whose encoding
begins with the opcode. -/
structure BaseEntry (op n : Byte) (w : Word) (i : Instr) : Prop where
  wellFormed : i.wellFormed = true
  length : i.form.length = opLength op
  encode : encode i = op :: (if opLength op = 3 then [loByte w, hiByte w] else if opLength op = 2 then [n] else [])

theorem decodeBase_entry (n : Byte) (w : Word) : ∀ op : Byte, op ≠ 0xCB → BaseEntry op n w (decodeBase op n w) := by
  have h : ∀ k : Nat, k < 256 → k ≠ 0xCB → BaseEntry (BitVec.ofNat 8 k) n w (decodeBase (BitVec.ofNat 8 k) n w) := by
    intro k hk hne
    interval_cases k <;> first | exact ⟨rfl, rfl, rfl⟩ | exact absurd rfl hne
  intro op hop
  have := h op.toNat op.isLt (fun hc => hop (BitVec.eq_of_toNat_eq hc))
  rwa [BitVec.ofNat_toNat, BitVec.setWidth_eq] at this

theorem decodeCb_entry : ∀ b2 : Byte, (decodeCb b2).wellFormed = true ∧ (decodeCb b2).form.length = 2 ∧
    encode (decodeCb b2) = [0xCB, b2] := by
  decide

theorem opLength_cases (op : Byte) : opLength op = 1 ∨ opLength op = 2 ∨ opLength op = 3 := by
  unfold opLength
  repeat' split
  all_goals simp

/-- As many bytes as the first one calls for decode to one well-formed instruction, whose encoding they are. -/
theorem decode_exact (op : Byte) (tail : List Byte) (h : tail.length + 1 = opLength op) :
    ∃ i, decode (op :: tail) = .ok (i, []) ∧ i.wellFormed = true ∧ i.form.length = opLength op ∧ encode i = op :: tail := by
  by_cases hcb : op = 0xCB
  · subst hcb
    obtain ⟨b2, rfl⟩ : ∃ b2, tail = [b2] := List.length_eq_one_iff.1 (by simpa [opLength] using h)
    exact ⟨decodeCb b2, rfl, (decodeCb_entry b2).1, (decodeCb_entry b2).2.1, (decodeCb_entry b2).2.2⟩
  · rcases opLength_cases op with hl | hl | hl
    · obtain rfl : tail = [] := List.length_eq_zero_iff.1 (by omega)
      have he := decodeBase_entry 0 0 op hcb
      refine ⟨decodeBase op 0 0, by simp only [decode, if_neg hcb, hl]; rfl, he.wellFormed, he.length,
        by rw [he.encode, hl]; rfl⟩
    · obtain ⟨n, rfl⟩ : ∃ n, tail = [n] := List.length_eq_one_iff.1 (by omega)
      have he := decodeBase_entry n 0 op hcb
      refine ⟨decodeBase op n 0, by simp only [decode, if_neg hcb, hl]; rfl, he.wellFormed, he.length,
        by rw [he.encode, hl]; rfl⟩
    · obtain ⟨lo, hi, rfl⟩ : ∃ lo hi, tail = [lo, hi] := List.length_eq_two.1 (by omega)
      have he := decodeBase_entry 0 (pairWord hi lo) op hcb
      refine ⟨decodeBase op 0 (pairWord hi lo), by simp only [decode, if_neg hcb, hl]; rfl, he.wellFormed, he.length,
        by rw [he.encode, hl, loByte_pairWord, hiByte_pairWord]; rfl⟩

end Sys2Proof
end

