-- ==== Sys2Proof/Laws/Form.lean ====
section
/-! SUPPORT. The meaning of an instruction as a function of its form, and that `exec` is it: one fact from which every law about
`exec` follows by cases on the 50 forms instead of the 512 constructors. -/

namespace Sys2Proof.Machine

/-- The meaning of an 8-bit operation on A. -/
def aluMeaning (op : AluOp) (v : Byte) (n : Nat) (s : State) : Result :=
  match op with
  | .add => addA v n s
  | .adc => adcA v n s
  | .sub => subA v n s
  | .sbc => sbcA v n s
  | .and => andA v n s
  | .xor => xorA v n s
  | .or => orA v n s
  | .cp => cpA v n s

/-- The address of an `(BC)` or `(DE)` operand. -/
def indAddr (s : State) : IndPair → Word
  | .bc => s.bc
  | .de => s.de

/-- The meaning of an instruction by its form. -/
def formMeaning (f : Form) (s : State) : Result :=
  match f with
  | .nop => nop s
  | .ld8 dst src => ldR8 dst src s
  | .ldImm8 dst d8 => ldR8Imm dst d8 s
  | .ldAInd p => loadA (indAddr s p) 1 s
  | .ldIndA p => storeA (indAddr s p) 1 s
  | .ldAA16 a16 => loadA a16 3 s
  | .ldA16A a16 => storeA a16 3 s
  | .ldhAC => loadA (highPage s.c) 1 s
  | .ldhCA => storeA (highPage s.c) 1 s
  | .ldhAA8 a8 => loadA (highPage a8) 2 s
  | .ldhA8A a8 => storeA (highPage a8) 2 s
  | .ldAHli => loadAHl 1 s
  | .ldAHld => loadAHl (-1) s
  | .ldHliA => storeAHl 1 s
  | .ldHldA => storeAHl (-1) s
  | .ldRp16 rr d16 => ldRp rr d16 s
  | .ldA16Sp a16 => storeSp a16 s
  | .ldSpHl => ldSpHl s
  | .ldHlSpE8 e8 => ldHlSpE8 e8 s
  | .push rr => pushRp2 rr s
  | .pop rr => popRp2 rr s
  | .alu op x => aluMeaning op (readR8 s x) 1 s
  | .aluImm op d8 => aluMeaning op d8 2 s
  | .inc8 x => incR8 x s
  | .dec8 x => decR8 x s
  | .daa => daaA s
  | .cpl => cplA s
  | .scf => scfC s
  | .ccf => ccfC s
  | .addHl rr => addHlRp rr s
  | .addSp e8 => addSpE8 e8 s
  | .inc16 rr => incRp rr s
  | .dec16 rr => decRp rr s
  | .rotA op => rotAcc op s
  | .cb op => cbMeaning op s
  | .jp a16 => jump a16 s
  | .jpCc cc a16 => jumpIf cc a16 s
  | .jpHl => jump s.hl s
  | .jr e8 => jumpRel e8 s
  | .jrCc cc e8 => jumpRelIf cc e8 s
  | .call a16 => callTo a16 s
  | .callCc cc a16 => callIf cc a16 s
  | .ret => returnTo s
  | .retCc cc => returnIf cc s
  | .reti => returnFromHandler s
  | .rst y => restart y s
  | .halt => halt s
  | .stop b2 => stop b2 s
  | .di => disableInterrupts s
  | .ei => enableInterrupts s
  | .invalid op => invalid op s

/-- `exec` is the meaning of the instruction's form. -/
theorem exec_eq_formMeaning (i : Instr) (s : State) : exec i s = formMeaning i.form s := by
  cases i <;> rfl

end Sys2Proof.Machine
end

