-- ==== Sys2Proof/Laws/Operands.lean ====
section
/-! SUPPORT. The operand tables on the state: reads after writes, what a write leaves alone, and their commuting with PC and the flags. -/

namespace Sys2Proof.Machine

variable (s : State)

theorem read8_setFlags (f : Flags) (addr : Word) : read8 (s.setFlags f) addr = read8 s addr := by
  rw [← State.withCpu_setFlags]; simp

/-- A state with the bus part of `s` reads as `s` does. -/
theorem read8_of_withCpu {u : State} (h : s.withCpu u = u) (addr : Word) : read8 u addr = read8 s addr := by
  rw [← h, read8_withCpu]

@[simp] theorem State.setHl_hl (w : Word) : (s.setHl w).hl = w := pairWord_hi_lo w

@[simp] theorem writeR8_f (x : R8) (v : Byte) : (writeR8 s x v).f = s.f := by cases x <;> simp [writeR8]
@[simp] theorem writeR8_sp (x : R8) (v : Byte) : (writeR8 s x v).sp = s.sp := by cases x <;> simp [writeR8]
@[simp] theorem writeR8_pc (x : R8) (v : Byte) : (writeR8 s x v).pc = s.pc := by cases x <;> simp [writeR8]
@[simp] theorem writeR8_ime (x : R8) (v : Byte) : (writeR8 s x v).ime = s.ime := by cases x <;> simp [writeR8]
@[simp] theorem writeR8_imePending (x : R8) (v : Byte) : (writeR8 s x v).imePending = s.imePending := by cases x <;> simp [writeR8]
@[simp] theorem writeR8_halted (x : R8) (v : Byte) : (writeR8 s x v).halted = s.halted := by cases x <;> simp [writeR8]
@[simp] theorem writeR8_stopped (x : R8) (v : Byte) : (writeR8 s x v).stopped = s.stopped := by cases x <;> simp [writeR8]

theorem readR8_advance (n : Nat) (x : R8) : readR8 (s.advance n) x = readR8 s x := by
  cases x <;> rfl

theorem readR8_setFlags (f : Flags) (x : R8) : readR8 (s.setFlags f) x = readR8 s x := by
  cases x <;> rfl

theorem writeR8_setFlags (f : Flags) (x : R8) (v : Byte) : writeR8 (s.setFlags f) x v = (writeR8 s x v).setFlags f := by
  cases x <;> first | rfl | exact write8_setFlags s _ v f

theorem readRp_advance (n : Nat) (x : Rp) : readRp (s.advance n) x = readRp s x := by cases x <;> rfl

theorem readRp2_advance (n : Nat) (x : Rp2) : readRp2 (s.advance n) x = readRp2 s x := by cases x <;> rfl

theorem popWord_advance (n : Nat) : popWord (s.advance n) = popWord s := by simp [popWord, read16, read8_advance]

theorem popWord_setFlags (f : Flags) : popWord (s.setFlags f) = popWord s := by simp [popWord, read16, read8_setFlags]

/-- A register of table `r` written: it holds the value, and nothing but it changes. -/
structure RegisterWritten (s : State) (x : R8) (v : Byte) (t : State) : Prop where
  value : readR8 t x = v
  others : ∀ y, y ≠ .atHl → y ≠ x → readR8 t y = readR8 s y
  bus : s.withCpu t = t
  only : t = { s with a := t.a, b := t.b, c := t.c, d := t.d, e := t.e, h := t.h, l := t.l }

theorem writeR8_register {x : R8} (hx : x ≠ .atHl) (v : Byte) : RegisterWritten s x v (writeR8 s x v) := by
  cases x <;> first | exact absurd rfl hx | skip
  all_goals
    refine ⟨rfl, fun y h1 h2 => ?_, rfl, rfl⟩
    cases y <;> first | rfl | exact absurd rfl h1 | exact absurd rfl h2

/-- A member of table `rp` written: it holds the value, and nothing but it changes. -/
structure PairWritten (s : State) (x : Rp) (w : Word) (t : State) : Prop where
  value : readRp t x = w
  others : ∀ y, y ≠ x → readRp t y = readRp s y
  bus : s.withCpu t = t
  only : t = { s with b := t.b, c := t.c, d := t.d, e := t.e, h := t.h, l := t.l, sp := t.sp }

theorem writeRp_pair (x : Rp) (w : Word) : PairWritten s x w (writeRp s x w) := by
  cases x <;> refine ⟨?_, fun y hy => ?_, rfl, rfl⟩
  all_goals first | (cases y <;> first | rfl | exact absurd rfl hy) | exact pairWord_hi_lo w | rfl

end Sys2Proof.Machine
end

