-- ==== Sys2Proof/Laws/Ops.lean ====
section
/-! SUPPORT. What the shared operations of a step can do: push, interrupt entry, the environment's move, `Tick`, the HALT loop. -/

namespace Sys2Proof.Machine

variable (s : State)

/-! ### Push and interrupt entry -/

@[simp] theorem push16_a (w : Word) : (push16 s w).a = s.a := by simp [push16]
@[simp] theorem push16_b (w : Word) : (push16 s w).b = s.b := by simp [push16]
@[simp] theorem push16_c (w : Word) : (push16 s w).c = s.c := by simp [push16]
@[simp] theorem push16_d (w : Word) : (push16 s w).d = s.d := by simp [push16]
@[simp] theorem push16_e (w : Word) : (push16 s w).e = s.e := by simp [push16]
@[simp] theorem push16_h (w : Word) : (push16 s w).h = s.h := by simp [push16]
@[simp] theorem push16_l (w : Word) : (push16 s w).l = s.l := by simp [push16]
@[simp] theorem push16_f (w : Word) : (push16 s w).f = s.f := by simp [push16]
@[simp] theorem push16_sp (w : Word) : (push16 s w).sp = s.sp - 2 := by simp [push16]
@[simp] theorem push16_pc (w : Word) : (push16 s w).pc = s.pc := by simp [push16]
@[simp] theorem push16_ime (w : Word) : (push16 s w).ime = s.ime := by simp [push16]
@[simp] theorem push16_imePending (w : Word) : (push16 s w).imePending = s.imePending := by simp [push16]
@[simp] theorem push16_halted (w : Word) : (push16 s w).halted = s.halted := by simp [push16]
@[simp] theorem push16_stopped (w : Word) : (push16 s w).stopped = s.stopped := by simp [push16]
@[simp] theorem push16_cycles (w : Word) : (push16 s w).cycles = s.cycles := by simp [push16]
@[simp] theorem push16_params (w : Word) : (push16 s w).params = s.params := by simp [push16]
@[simp] theorem push16_env (w : Word) : (push16 s w).env = s.env := by simp [push16]
@[simp] theorem push16_cart (w : Word) : (push16 s w).cart = s.cart := by simp [push16]
@[simp] theorem push16_wramBank (w : Word) : (push16 s w).wramBank = s.wramBank := by simp [push16]
@[simp] theorem push16_vramBank (w : Word) : (push16 s w).vramBank = s.vramBank := by simp [push16]
@[simp] theorem push16_dpad (w : Word) : (push16 s w).dpad = s.dpad := by simp [push16]
@[simp] theorem push16_buttons (w : Word) : (push16 s w).buttons = s.buttons := by simp [push16]

@[simp] theorem takeInterrupt_a (i : Nat) : (takeInterrupt i s).a = s.a := by simp [takeInterrupt]
@[simp] theorem takeInterrupt_b (i : Nat) : (takeInterrupt i s).b = s.b := by simp [takeInterrupt]
@[simp] theorem takeInterrupt_c (i : Nat) : (takeInterrupt i s).c = s.c := by simp [takeInterrupt]
@[simp] theorem takeInterrupt_d (i : Nat) : (takeInterrupt i s).d = s.d := by simp [takeInterrupt]
@[simp] theorem takeInterrupt_e (i : Nat) : (takeInterrupt i s).e = s.e := by simp [takeInterrupt]
@[simp] theorem takeInterrupt_h (i : Nat) : (takeInterrupt i s).h = s.h := by simp [takeInterrupt]
@[simp] theorem takeInterrupt_l (i : Nat) : (takeInterrupt i s).l = s.l := by simp [takeInterrupt]
@[simp] theorem takeInterrupt_f (i : Nat) : (takeInterrupt i s).f = s.f := by simp [takeInterrupt]
@[simp] theorem takeInterrupt_sp (i : Nat) : (takeInterrupt i s).sp = s.sp - 2 := by simp [takeInterrupt]
@[simp] theorem takeInterrupt_pc (i : Nat) : (takeInterrupt i s).pc = vectorOf i := by simp [takeInterrupt]
@[simp] theorem takeInterrupt_ime (i : Nat) : (takeInterrupt i s).ime = false := by simp [takeInterrupt]
@[simp] theorem takeInterrupt_imePending (i : Nat) : (takeInterrupt i s).imePending = s.imePending := by simp [takeInterrupt]
@[simp] theorem takeInterrupt_halted (i : Nat) : (takeInterrupt i s).halted = false := by simp [takeInterrupt]
@[simp] theorem takeInterrupt_stopped (i : Nat) : (takeInterrupt i s).stopped = s.stopped := by simp [takeInterrupt]
@[simp] theorem takeInterrupt_cycles (i : Nat) : (takeInterrupt i s).cycles = s.cycles + s.params.intDispatchCycles := by simp [takeInterrupt]
@[simp] theorem takeInterrupt_params (i : Nat) : (takeInterrupt i s).params = s.params := by simp [takeInterrupt]
@[simp] theorem takeInterrupt_env (i : Nat) : (takeInterrupt i s).env = s.env := by simp [takeInterrupt]
@[simp] theorem takeInterrupt_cart (i : Nat) : (takeInterrupt i s).cart = s.cart := by simp [takeInterrupt]
@[simp] theorem takeInterrupt_wramBank (i : Nat) : (takeInterrupt i s).wramBank = s.wramBank := by simp [takeInterrupt]
@[simp] theorem takeInterrupt_vramBank (i : Nat) : (takeInterrupt i s).vramBank = s.vramBank := by simp [takeInterrupt]
@[simp] theorem takeInterrupt_dpad (i : Nat) : (takeInterrupt i s).dpad = s.dpad := by simp [takeInterrupt]
@[simp] theorem takeInterrupt_buttons (i : Nat) : (takeInterrupt i s).buttons = s.buttons := by simp [takeInterrupt]

/-- A push is a `write16` below SP, and SP lowered. -/
theorem push16_eq (w : Word) : push16 s w = { write16 s (s.sp - 2) w with sp := s.sp - 2 } := by
  have h : ({ s with sp := s.sp - 2 } : State) = s.withCpu { s with sp := s.sp - 2 } := rfl
  rw [push16, h, write16_withCpu]
  conv_rhs => rw [← write16_keeps_cpu s (s.sp - 2) w]
  rfl

theorem push16_setFlags (f : Flags) (w : Word) : push16 (s.setFlags f) w = (push16 s w).setFlags f := by
  unfold push16 write16
  have h : ({ s.setFlags f with sp := (s.setFlags f).sp - 2 } : State) = State.setFlags { s with sp := s.sp - 2 } f := rfl
  rw [h, write8_setFlags, write8_setFlags]
  rfl

theorem push16_advance (n : Nat) (w : Word) : push16 (s.advance n) w = (push16 s w).advance n := by
  unfold push16 write16
  have h : ({ s.advance n with sp := (s.advance n).sp - 2 } : State) = State.advance { s with sp := s.sp - 2 } n := rfl
  rw [h, write8_advance, write8_advance]
  rfl

theorem push16_memoryOk {s : State} (h : s.memoryOk = true) (w : Word) : (push16 s w).memoryOk = true :=
  write16_memoryOk (s := { s with sp := s.sp - 2 }) h _ _

theorem push16_banksOk {s : State} (h : s.banksOk = true) (w : Word) : (push16 s w).banksOk = true :=
  write16_banksOk (s := { s with sp := s.sp - 2 }) h _ _

theorem setIf_memoryOk {s : State} (h : s.memoryOk = true) (v : Byte) : (s.setIf v).memoryOk = true := by
  rw [State.memoryOk_iff] at h ⊢
  obtain ⟨h1, h2, h3, h4, h5, h6, h7, h8, h9, h10, h11, h12, h13, h14⟩ := h
  exact ⟨h1, h2, h3, h4, h5, h6, h7, h8, h9, h10, h11, h12, Memory.write_wf h13, Memory.write_within h14 (by decide)⟩

/-- The state an interrupt entry pushes from: IME and `halted` cleared, the served request cleared (60_exceptions.md R387). -/
def acknowledged (i : Nat) (s : State) : State :=
  State.setIf { s with ime := false, halted := false } (s.ifByte &&& ~~~((1#8) <<< i))

theorem takeInterrupt_eq (i : Nat) : takeInterrupt i s =
    { push16 (acknowledged i s) s.pc with pc := vectorOf i, cycles := s.cycles + s.params.intDispatchCycles } := by
  have h : takeInterrupt i s = { push16 (acknowledged i s) s.pc with
      pc := vectorOf i, cycles := (push16 (acknowledged i s) s.pc).cycles +
        (push16 (acknowledged i s) s.pc).params.intDispatchCycles } := rfl
  rw [h, push16_cycles, push16_params]
  rfl

theorem takeInterrupt_memoryOk {s : State} (h : s.memoryOk = true) (i : Nat) : (takeInterrupt i s).memoryOk = true := by
  rw [takeInterrupt_eq]
  exact push16_memoryOk (setIf_memoryOk (s := { s with ime := false, halted := false }) h _) _

theorem takeInterrupt_banksOk {s : State} (h : s.banksOk = true) (i : Nat) : (takeInterrupt i s).banksOk = true := by
  rw [takeInterrupt_eq]
  exact push16_banksOk (s := acknowledged i s) h _

theorem takeInterrupt_setFlags (i : Nat) (f : Flags) : takeInterrupt i (s.setFlags f) = (takeInterrupt i s).setFlags f := by
  rw [takeInterrupt_eq, takeInterrupt_eq]
  have h : acknowledged i (s.setFlags f) = (acknowledged i s).setFlags f := rfl
  rw [h, push16_setFlags]
  rfl

/-! ### The environment's move -/

/-- A move of the environment changes I/O bytes, the joypad bytes and `stopped`, and nothing else (00_scope.md R5). -/
theorem applyMove_only (m : EnvMove) : ∃ io dpad buttons stopped, (s.stopped = true → stopped = true) ∧
    applyMove m s = { s with io := io, dpad := dpad, buttons := buttons, stopped := stopped } := by
  obtain ⟨irq, joypad, stop, cells⟩ := m
  cases stop <;> rcases joypad with _ | ⟨x, y⟩ <;> first
    | exact ⟨_, _, _, _, fun _ => rfl, rfl⟩
    | exact ⟨_, _, _, s.stopped, id, rfl⟩

theorem applyMove_io (m : EnvMove) : (applyMove m s).io =
    Memory.write (Memory.writeAll s.io (m.io.filter (fun cell => deviceOwned cell.1))) 0x0F
      (Memory.read (Memory.writeAll s.io (m.io.filter (fun cell => deviceOwned cell.1))) 0x0F ||| m.irq.zeroExtend 8) := by
  obtain ⟨irq, joypad, stop, cells⟩ := m
  cases stop <;> rcases joypad with _ | ⟨x, y⟩ <;> rfl

/-- The environment step of a `Tick` changes I/O bytes, the joypad bytes and `stopped`, and the model's own two fields. -/
theorem envStep_only : ∃ io dpad buttons stopped env, (s.stopped = true → stopped = true) ∧
    envStep s = { s with io := io, dpad := dpad, buttons := buttons, stopped := stopped, env := env, ppuEpoch := s.ppuEpoch + 1 } := by
  unfold envStep
  split
  · exact ⟨_, _, _, s.stopped, _, id, rfl⟩
  · rename_i m rest _
    obtain ⟨io, dp, bt, st, hst, h⟩ := applyMove_only { s with ppuEpoch := s.ppuEpoch + 1, env := rest } m
    rw [h]
    exact ⟨io, dp, bt, st, rest, hst, rfl⟩

theorem envStep_setFlags (f : Flags) : envStep (s.setFlags f) = (envStep s).setFlags f := by
  unfold envStep
  simp only [State.setFlags_env]
  split
  · rfl
  · rename_i m rest _
    obtain ⟨irq, joypad, stop, cells⟩ := m
    cases stop <;> rcases joypad with _ | ⟨x, y⟩ <;> rfl

theorem envStep_memoryOk {s : State} (h : s.memoryOk = true) : (envStep s).memoryOk = true := by
  unfold envStep
  split
  · exact h
  · rename_i m rest _
    have hio := applyMove_io { s with ppuEpoch := s.ppuEpoch + 1, env := rest } m
    obtain ⟨io, dp, bt, st, -, ho⟩ := applyMove_only { s with ppuEpoch := s.ppuEpoch + 1, env := rest } m
    rw [ho] at hio ⊢
    simp only at hio
    subst hio
    rw [State.memoryOk_iff] at h ⊢
    obtain ⟨h1, h2, h3, h4, h5, h6, h7, h8, h9, h10, h11, h12, h13, h14⟩ := h
    refine ⟨h1, h2, h3, h4, h5, h6, h7, h8, h9, h10, h11, h12, ?_, ?_⟩
    · exact Memory.write_wf (Memory.writeAll_wf _ h13)
    · refine Memory.write_within (Memory.writeAll_within _ h14 (fun cell hc => ?_)) (by decide)
      have := (List.mem_filter.1 hc).2
      simp only [deviceOwned, Bool.and_eq_true, decide_eq_true_eq] at this
      exact this.1.1

/-! ### Tick -/

theorem promote_cases (p : Bool) : promote p s = s ∨
    (p = true ∧ s.imePending = true ∧ promote p s = { s with ime := true, imePending := false }) := by
  unfold promote
  split
  · rename_i h; exact .inr ⟨by simp_all, by simp_all, rfl⟩
  · exact .inl rfl

/-- The interrupt check dispatches one request, or changes nothing (60_exceptions.md R385). -/
theorem checkInterrupt_cases : (¬ (s.ime = true ∧ s.pending ≠ 0) ∧ checkInterrupt s = s) ∨
    (s.ime = true ∧ s.pending ≠ 0 ∧ checkInterrupt s = takeInterrupt (highestPriority s.pending) s) := by
  unfold checkInterrupt
  by_cases h : s.ime = true ∧ s.pending ≠ 0
  · exact .inr ⟨h.1, h.2, by rw [if_pos (by simpa [h.1] using h.2)]⟩
  · exact .inl ⟨h, by rw [if_neg (by simpa using h)]⟩

/-- The state a `Tick` checks for interrupts. -/
def beforeCheck (n : Nat) (p : Bool) (s : State) : State := promote p (envStep { s with cycles := s.cycles + n })

theorem tick_eq (n : Nat) (p : Bool) : tick n p s = checkInterrupt (beforeCheck n p s) := rfl

/-- What a `Tick` does before the check: the count, the environment, the promotion. -/
theorem beforeCheck_only (n : Nat) (p : Bool) : ∃ io dpad buttons stopped env ime pend, (s.stopped = true → stopped = true) ∧
    beforeCheck n p s = { s with io := io, dpad := dpad, buttons := buttons, stopped := stopped, env := env,
                                 ppuEpoch := s.ppuEpoch + 1, cycles := s.cycles + n, ime := ime, imePending := pend } := by
  obtain ⟨io, dp, bt, st, en, hst, h⟩ := envStep_only { s with cycles := s.cycles + n }
  unfold beforeCheck
  rw [h]
  rcases promote_cases { s with io := io, dpad := dp, buttons := bt, stopped := st, env := en, ppuEpoch := s.ppuEpoch + 1, cycles := s.cycles + n } p with hp | ⟨-, -, hp⟩
  · rw [hp]; exact ⟨_, _, _, st, _, _, _, hst, rfl⟩
  · rw [hp]; exact ⟨_, _, _, st, _, _, _, hst, rfl⟩

theorem beforeCheck_memoryOk {s : State} (h : s.memoryOk = true) (n : Nat) (p : Bool) : (beforeCheck n p s).memoryOk = true := by
  have he := envStep_memoryOk (s := { s with cycles := s.cycles + n }) h
  unfold beforeCheck
  rcases promote_cases (envStep { s with cycles := s.cycles + n }) p with hp | ⟨-, -, hp⟩ <;> rw [hp] <;> exact he

/-- A `Tick`: the check's two outcomes. -/
theorem tick_cases (n : Nat) (p : Bool) :
    (¬ ((beforeCheck n p s).ime = true ∧ (beforeCheck n p s).pending ≠ 0) ∧ tick n p s = beforeCheck n p s) ∨
    ((beforeCheck n p s).ime = true ∧ (beforeCheck n p s).pending ≠ 0 ∧
      tick n p s = takeInterrupt (highestPriority (beforeCheck n p s).pending) (beforeCheck n p s)) :=
  checkInterrupt_cases _

/-- What every `Tick` leaves alone: the general registers, the flags, the cartridge, the parameters, the CGB banks. -/
structure SameCore (s t : State) : Prop where
  a : t.a = s.a
  b : t.b = s.b
  c : t.c = s.c
  d : t.d = s.d
  e : t.e = s.e
  h : t.h = s.h
  l : t.l = s.l
  f : t.f = s.f
  cart : t.cart = s.cart
  params : t.params = s.params
  wramBank : t.wramBank = s.wramBank
  vramBank : t.vramBank = s.vramBank

theorem SameCore.trans {s t u : State} (h : SameCore s t) (h' : SameCore t u) : SameCore s u := by
  constructor <;> simp only [h.a, h.b, h.c, h.d, h.e, h.h, h.l, h.f, h.cart, h.params, h.wramBank, h.vramBank, h'.a, h'.b, h'.c,
    h'.d, h'.e, h'.h, h'.l, h'.f, h'.cart, h'.params, h'.wramBank, h'.vramBank]

theorem beforeCheck_sameCore (n : Nat) (p : Bool) : SameCore s (beforeCheck n p s) := by
  obtain ⟨io, dp, bt, st, en, im, pe, -, h⟩ := beforeCheck_only s n p
  rw [h]; constructor <;> rfl

theorem tick_sameCore (n : Nat) (p : Bool) : SameCore s (tick n p s) := by
  have hb := beforeCheck_sameCore s n p
  rcases tick_cases s n p with ⟨-, h⟩ | ⟨-, -, h⟩
  · rw [h]; exact hb
  · rw [h]
    refine hb.trans ?_
    constructor <;> simp

theorem tick_memoryOk {s : State} (h : s.memoryOk = true) (n : Nat) (p : Bool) : (tick n p s).memoryOk = true := by
  have hb := beforeCheck_memoryOk h n p
  rcases tick_cases s n p with ⟨-, ht⟩ | ⟨-, -, ht⟩ <;> rw [ht]
  · exact hb
  · exact takeInterrupt_memoryOk hb _

theorem beforeCheck_banksOk {s : State} (h : s.banksOk = true) (n : Nat) (p : Bool) : (beforeCheck n p s).banksOk = true := by
  obtain ⟨io, dp, bt, st, en, im, pe, -, hb⟩ := beforeCheck_only s n p
  rw [hb]; exact h

theorem tick_banksOk {s : State} (h : s.banksOk = true) (n : Nat) (p : Bool) : (tick n p s).banksOk = true := by
  have hb := beforeCheck_banksOk h n p
  rcases tick_cases s n p with ⟨-, ht⟩ | ⟨-, -, ht⟩ <;> rw [ht]
  · exact hb
  · exact takeInterrupt_banksOk hb _

@[simp] theorem beforeCheck_halted (n : Nat) (p : Bool) : (beforeCheck n p s).halted = s.halted := by
  obtain ⟨io, dp, bt, st, en, im, pe, -, hb⟩ := beforeCheck_only s n p
  rw [hb]

theorem tick_halted {s : State} (h : s.halted = false) (n : Nat) (p : Bool) : (tick n p s).halted = false := by
  rcases tick_cases s n p with ⟨-, ht⟩ | ⟨-, -, ht⟩ <;> rw [ht]
  · simpa using h
  · simp

/-- After a `Tick` no enabled request waits with IME set: it has been dispatched (60_exceptions.md R385). -/
theorem tick_no_enabled_request (n : Nat) (p : Bool) (h : (tick n p s).ime = true) : (tick n p s).pending = 0 := by
  rcases tick_cases s n p with ⟨hn, ht⟩ | ⟨-, -, ht⟩ <;> rw [ht] at h ⊢
  · by_contra hp; exact hn ⟨h, hp⟩
  · simp at h

theorem checkInterrupt_setFlags (f : Flags) : checkInterrupt (s.setFlags f) = (checkInterrupt s).setFlags f := by
  have hi : (s.setFlags f).ime = s.ime := rfl
  have hp : (s.setFlags f).pending = s.pending := rfl
  unfold checkInterrupt
  rw [hi, hp]
  split
  · exact takeInterrupt_setFlags s _ f
  · rfl

theorem promote_setFlags (p : Bool) (f : Flags) : promote p (s.setFlags f) = (promote p s).setFlags f := by
  have hi : (s.setFlags f).imePending = s.imePending := rfl
  unfold promote
  rw [hi]
  split <;> rfl

/-- A `Tick` neither reads nor writes the flags. -/
theorem tick_setFlags (n : Nat) (p : Bool) (f : Flags) : tick n p (s.setFlags f) = (tick n p s).setFlags f := by
  have h : ({ s.setFlags f with cycles := (s.setFlags f).cycles + n } : State) = State.setFlags { s with cycles := s.cycles + n } f := rfl
  unfold tick
  rw [h, envStep_setFlags, promote_setFlags, checkInterrupt_setFlags]

/-! ### The HALT loop -/

/-- An induction over the HALT loop: what holds of the state it starts from and is kept by `Tick`, holds of the state it ends in, up to
`halted`. -/
theorem haltLoop_induct {P : State → Prop} (p : Bool) (hstep : ∀ s n, P s → P (tick n p s)) (hclear : ∀ s, P s → P { s with halted := false })
    (fuel elapsed : Nat) (hs : P s) : P (haltLoop p fuel elapsed s) := by
  induction fuel generalizing s elapsed with
  | zero => exact hclear _ hs
  | succ fuel ih =>
    simp only [haltLoop]
    split
    · exact hclear _ (hstep _ _ hs)
    · exact ih _ _ (hstep _ _ hs)

@[simp] theorem haltLoop_halted (p : Bool) (fuel elapsed : Nat) : (haltLoop p fuel elapsed s).halted = false := by
  induction fuel generalizing s elapsed with
  | zero => rfl
  | succ fuel ih =>
    simp only [haltLoop]
    split
    · rfl
    · exact ih _ _

theorem haltLoop_sameCore (p : Bool) (fuel elapsed : Nat) : SameCore s (haltLoop p fuel elapsed s) := by
  refine haltLoop_induct s (P := SameCore s) p (fun t n h => h.trans (tick_sameCore t n p)) (fun t h => ?_) fuel elapsed ?_
  · exact h.trans (by constructor <;> rfl)
  · constructor <;> rfl

theorem haltLoop_memoryOk {s : State} (h : s.memoryOk = true) (p : Bool) (fuel elapsed : Nat) :
    (haltLoop p fuel elapsed s).memoryOk = true :=
  haltLoop_induct s (P := fun t => t.memoryOk = true) p (fun _ n ht => tick_memoryOk ht n p) (fun _ ht => ht) fuel elapsed h

theorem haltLoop_banksOk {s : State} (h : s.banksOk = true) (p : Bool) (fuel elapsed : Nat) :
    (haltLoop p fuel elapsed s).banksOk = true :=
  haltLoop_induct s (P := fun t => t.banksOk = true) p (fun _ n ht => tick_banksOk ht n p) (fun _ ht => ht) fuel elapsed h

/-- The HALT loop runs at least one `Tick`, so it leaves no enabled request waiting with IME set. -/
theorem haltLoop_no_enabled_request (p : Bool) (fuel elapsed : Nat) (h : (haltLoop p (fuel + 1) elapsed s).ime = true) :
    (haltLoop p (fuel + 1) elapsed s).pending = 0 := by
  induction fuel generalizing s elapsed with
  | zero =>
    simp only [haltLoop, ite_self] at h ⊢
    exact tick_no_enabled_request s _ p h
  | succ fuel ih =>
    rw [haltLoop] at h ⊢
    split
    · rename_i hc
      rw [if_pos hc] at h
      exact tick_no_enabled_request s _ p h
    · rename_i hc
      rw [if_neg hc] at h
      exact ih _ _ h

/-- One turn of the HALT loop that goes on: its `Tick` found no request, and the fuse has not been reached. -/
theorem haltLoop_turn {s : State} {p : Bool} {elapsed : Nat} (fuel : Nat) (hh : s.halted = true)
    (hp : (beforeCheck s.params.haltTickQuantum p s).pending = 0) (hf : elapsed + s.params.haltTickQuantum < Config.haltFuseCycles) :
    haltLoop p (fuel + 1) elapsed s =
      haltLoop p fuel (elapsed + s.params.haltTickQuantum) (beforeCheck s.params.haltTickQuantum p s) := by
  have ht : tick s.params.haltTickQuantum p s = beforeCheck s.params.haltTickQuantum p s :=
    (tick_cases s _ p).elim (fun h => h.2) (fun h => absurd hp h.2.1)
  rw [haltLoop]
  simp only [ht]
  exact if_neg (by simp [hh, hp, hf])

/-- The turn of the HALT loop that ends it: its `Tick` found a request, dispatched with IME 1, left pending with IME 0. -/
theorem haltLoop_wake {s : State} {p : Bool} (fuel elapsed : Nat) (hp : (beforeCheck s.params.haltTickQuantum p s).pending ≠ 0) :
    haltLoop p (fuel + 1) elapsed s = { checkInterrupt (beforeCheck s.params.haltTickQuantum p s) with halted := false } := by
  rw [haltLoop]
  refine if_pos ?_
  rw [tick_eq]
  rcases checkInterrupt_cases (beforeCheck s.params.haltTickQuantum p s) with ⟨-, h⟩ | ⟨-, -, h⟩
  · rw [h, decide_eq_true hp, Bool.or_true, Bool.true_or]
  · rw [h, takeInterrupt_halted, Bool.not_false, Bool.true_or, Bool.true_or]

theorem haltLoop_setFlags (p : Bool) (f : Flags) (fuel elapsed : Nat) :
    haltLoop p fuel elapsed (s.setFlags f) = (haltLoop p fuel elapsed s).setFlags f := by
  induction fuel generalizing s elapsed with
  | zero => rfl
  | succ fuel ih =>
    have hq : (s.setFlags f).params = s.params := rfl
    simp only [haltLoop, hq, tick_setFlags]
    have h1 : ((tick s.params.haltTickQuantum p s).setFlags f).halted = (tick s.params.haltTickQuantum p s).halted := rfl
    have h2 : ((tick s.params.haltTickQuantum p s).setFlags f).pending = (tick s.params.haltTickQuantum p s).pending := rfl
    rw [h1, h2]
    split
    · rfl
    · exact ih _ _

end Sys2Proof.Machine
end

