-- ==== Sys2Proof/Laws/Exec.lean ====
section
/-! SUPPORT. What a meaning can do, said once for every instruction: when it answers a next state, and which part of the board that
state may differ in. -/

namespace Sys2Proof.Machine

variable {s t : State}

/-- Every form but an invalid opcode has a next state. -/
def formRuns : Form → Bool
  | .invalid _ => false
  | _ => true

theorem formMeaning_next (f : Form) (h : formRuns f = true) (s : State) : ∃ t, formMeaning f s = .next t := by
  cases f with
  | invalid op => simp [formRuns] at h
  | alu op x => cases op <;> exact ⟨_, rfl⟩
  | aluImm op x => cases op <;> exact ⟨_, rfl⟩
  | rotA op => cases op <;> exact ⟨_, rfl⟩
  | cb op => rcases op with ⟨op, x⟩ | ⟨n, x⟩ | ⟨n, x⟩ | ⟨n, x⟩ <;> exact ⟨_, rfl⟩
  | jpCc cc d => simp only [formMeaning, jumpIf]; split <;> exact ⟨_, rfl⟩
  | jrCc cc d => simp only [formMeaning, jumpRelIf]; split <;> exact ⟨_, rfl⟩
  | callCc cc d => simp only [formMeaning, callIf]; split <;> exact ⟨_, rfl⟩
  | retCc cc => simp only [formMeaning, returnIf]; split <;> exact ⟨_, rfl⟩
  | _ => exact ⟨_, rfl⟩

/-- The bus part of `t` is that of `s`, or of `s` after one byte store, or after one word store. -/
def BusOf (s t : State) : Prop :=
  (∃ u, t = s.withCpu u) ∨ (∃ addr v u, t = (write8 s addr v).withCpu u) ∨ (∃ addr w u, t = (write16 s addr w).withCpu u)

/-- What every instruction but `HALT` does at most: one store, and changes to the registers, the flags and the control bits. -/
structure Shape (s t : State) : Prop where
  bus : BusOf s t
  halted : t.halted = s.halted
  params : t.params = s.params
  env : t.env = s.env
  cycles : t.cycles = s.cycles

theorem shape_register (h : s.withCpu t = t) (h1 : t.halted = s.halted) (h2 : t.params = s.params) (h3 : t.env = s.env)
    (h4 : t.cycles = s.cycles) : Shape s t := ⟨.inl ⟨t, h.symm⟩, h1, h2, h3, h4⟩

theorem shape_write8 (addr : Word) (v : Byte) (u : State) (h1 : u.halted = s.halted) (h2 : u.params = s.params) (h3 : u.env = s.env)
    (h4 : u.cycles = s.cycles) : Shape s ((write8 s addr v).withCpu u) := ⟨.inr (.inl ⟨addr, v, u, rfl⟩), h1, h2, h3, h4⟩

theorem shape_write16 (addr w : Word) (u : State) (h1 : u.halted = s.halted) (h2 : u.params = s.params) (h3 : u.env = s.env)
    (h4 : u.cycles = s.cycles) : Shape s ((write16 s addr w).withCpu u) := ⟨.inr (.inr ⟨addr, w, u, rfl⟩), h1, h2, h3, h4⟩

theorem shape_writeR8 (s : State) (n : Nat) (x : R8) (v : Byte) (f : Flags) : Shape s ((writeR8 (s.advance n) x v).setFlags f) := by
  cases x
  case atHl =>
    simp only [writeR8]
    rw [write8_advance]
    exact shape_write8 (s := s) (s.advance n).hl v (((write8 s (s.advance n).hl v).advance n).setFlags f) (by simp) (by simp)
      (by simp) (by simp)
  all_goals exact shape_register rfl rfl rfl rfl rfl

theorem shape_push (s : State) (w target : Word) : Shape s { push16 s w with pc := target } := by
  have h : ({ s with sp := s.sp - 2 } : State) = s.withCpu { s with sp := s.sp - 2 } := rfl
  rw [push16, h, write16_withCpu]
  exact shape_write16 (s.sp - 2) w { s with sp := s.sp - 2, pc := target } rfl rfl rfl rfl

/-- Every instruction but `HALT` stays within `Shape`. -/
theorem formMeaning_shape {f : Form} (hh : f ≠ .halt) (h : formMeaning f s = .next t) : Shape s t := by
  cases f with
  | halt => exact absurd rfl hh
  | invalid op => simp [formMeaning, invalid] at h
  | ld8 x y => cases h; exact shape_writeR8 s 1 x _ (writeR8 (s.advance 1) x _).f
  | ldImm8 x d8 => cases h; exact shape_writeR8 s 2 x d8 (writeR8 (s.advance 2) x d8).f
  | inc8 x => cases h; exact shape_writeR8 s 1 x _ _
  | dec8 x => cases h; exact shape_writeR8 s 1 x _ _
  | ldIndA p =>
    cases h; rw [write8_advance]
    exact shape_write8 (indAddr s p) s.a ((write8 s (indAddr s p) s.a).advance 1) (by simp) (by simp) (by simp) (by simp)
  | ldA16A a16 =>
    cases h; rw [write8_advance]
    exact shape_write8 a16 s.a ((write8 s a16 s.a).advance 3) (by simp) (by simp) (by simp) (by simp)
  | ldhCA =>
    cases h; rw [write8_advance]
    exact shape_write8 (highPage s.c) s.a ((write8 s (highPage s.c) s.a).advance 1) (by simp) (by simp) (by simp) (by simp)
  | ldhA8A a8 =>
    cases h; rw [write8_advance]
    exact shape_write8 (highPage a8) s.a ((write8 s (highPage a8) s.a).advance 2) (by simp) (by simp) (by simp) (by simp)
  | ldHliA =>
    cases h; rw [write8_advance]
    exact shape_write8 s.hl s.a (State.setHl ((write8 s s.hl s.a).advance 1) (s.hl + 1)) (by simp) (by simp) (by simp) (by simp)
  | ldHldA =>
    cases h; rw [write8_advance]
    exact shape_write8 s.hl s.a (State.setHl ((write8 s s.hl s.a).advance 1) (s.hl + (-1))) (by simp) (by simp) (by simp) (by simp)
  | ldA16Sp a16 =>
    cases h
    rw [← State.withCpu_advance, write16_withCpu]
    exact shape_write16 a16 s.sp _ rfl rfl rfl rfl
  | push rr => cases h; rw [push16_advance]; exact shape_push s (readRp2 s rr) _
  | call a16 => cases h; exact shape_push s _ a16
  | rst y => cases h; exact shape_push s _ _
  | callCc cc a16 =>
    simp only [formMeaning, callIf] at h
    split at h
    · cases h; exact shape_push s _ a16
    · cases h; exact shape_register rfl rfl rfl rfl rfl
  | jpCc cc a16 => simp only [formMeaning, jumpIf] at h; split at h <;> cases h <;> exact shape_register rfl rfl rfl rfl rfl
  | jrCc cc e8 => simp only [formMeaning, jumpRelIf] at h; split at h <;> cases h <;> exact shape_register rfl rfl rfl rfl rfl
  | retCc cc => simp only [formMeaning, returnIf] at h; split at h <;> cases h <;> exact shape_register rfl rfl rfl rfl rfl
  | cb op =>
    rcases op with ⟨op, x⟩ | ⟨n, x⟩ | ⟨n, x⟩ | ⟨n, x⟩ <;> cases h
    · exact shape_writeR8 s 2 x _ _
    · exact shape_register rfl rfl rfl rfl rfl
    · exact shape_writeR8 s 2 x _ (writeR8 (s.advance 2) x _).f
    · exact shape_writeR8 s 2 x _ (writeR8 (s.advance 2) x _).f
  | alu op x => cases op <;> cases h <;> exact shape_register rfl rfl rfl rfl rfl
  | aluImm op d8 => cases op <;> cases h <;> exact shape_register rfl rfl rfl rfl rfl
  | ldRp16 rr d16 => cases rr <;> cases h <;> exact shape_register rfl rfl rfl rfl rfl
  | inc16 rr => cases rr <;> cases h <;> exact shape_register rfl rfl rfl rfl rfl
  | dec16 rr => cases rr <;> cases h <;> exact shape_register rfl rfl rfl rfl rfl
  | pop rr => cases rr <;> cases h <;> exact shape_register rfl rfl rfl rfl rfl
  | _ => cases h; exact shape_register rfl rfl rfl rfl rfl

theorem BusOf.board (h : BusOf s t) : t.cart = s.cart ∧ t.wramBank = s.wramBank ∧ t.vramBank = s.vramBank ∧
    t.dpad = s.dpad ∧ t.buttons = s.buttons := by
  rcases h with ⟨u, rfl⟩ | ⟨addr, v, u, rfl⟩ | ⟨addr, w, u, rfl⟩
  · exact ⟨rfl, rfl, rfl, rfl, rfl⟩
  · exact ⟨write8_cart s addr v, write8_wramBank s addr v, write8_vramBank s addr v, write8_dpad s addr v, write8_buttons s addr v⟩
  · exact ⟨write16_cart s addr w, write16_wramBank s addr w, write16_vramBank s addr w, write16_dpad s addr w, write16_buttons s addr w⟩

theorem BusOf.memoryOk (h : BusOf s t) (hm : s.memoryOk = true) : t.memoryOk = true := by
  rcases h with ⟨u, rfl⟩ | ⟨addr, v, u, rfl⟩ | ⟨addr, w, u, rfl⟩
  · exact hm
  · exact write8_memoryOk hm addr v
  · exact write16_memoryOk hm addr w

theorem BusOf.banksOk (h : BusOf s t) (hb : s.banksOk = true) : t.banksOk = true := by
  rcases h with ⟨u, rfl⟩ | ⟨addr, v, u, rfl⟩ | ⟨addr, w, u, rfl⟩
  · exact hb
  · exact write8_banksOk hb addr v
  · exact write16_banksOk hb addr w

end Sys2Proof.Machine
end

