-- ==== Sys2Proof/Laws/Step.lean ====
section
/-! SUPPORT. What one step can do: no step, a fetch fault, or the decoded instruction's meaning and its `Tick`. -/

namespace Sys2Proof.Machine

variable (s : State)

theorem fetchBytes_cons {n : Nat} (h : 1 ≤ n) : ∃ tail, tail.length + 1 = n ∧ fetchBytes s n = read8 s s.pc :: tail := by
  obtain ⟨m, rfl⟩ : ∃ m, n = m + 1 := ⟨n - 1, by omega⟩
  refine ⟨(fetchBytes s (m + 1)).tail, by simp [fetchBytes], ?_⟩
  simp [fetchBytes, List.range_succ_eq_map]

/-- The fetch: `FetchWrap` where the bytes would run past 0xFFFF, else the well-formed instruction whose encoding stands at PC. -/
theorem fetch_cases :
    (0x10000 < s.pc.toNat + opLength (read8 s s.pc) ∧ fetch s = .error (.fetchWrap s.pc)) ∨
    (s.pc.toNat + opLength (read8 s s.pc) ≤ 0x10000 ∧ ∃ i, fetch s = .ok i ∧ i.wellFormed = true ∧
      i.form.length = opLength (read8 s s.pc) ∧ encode i = fetchBytes s (opLength (read8 s s.pc))) := by
  unfold fetch
  by_cases hw : s.pc.toNat + opLength (read8 s s.pc) > 0x10000
  · exact .inl ⟨hw, by simp only [if_pos hw]⟩
  · refine .inr ⟨by omega, ?_⟩
    have h1 : 1 ≤ opLength (read8 s s.pc) := by rcases opLength_cases (read8 s s.pc) with h | h | h <;> omega
    obtain ⟨tail, ht, hb⟩ := fetchBytes_cons s h1
    obtain ⟨i, hd, hwf, hlen, henc⟩ := decode_exact (read8 s s.pc) tail ht
    refine ⟨i, ?_, hwf, hlen, ?_⟩
    · simp only [if_neg hw, hb, hd]
    · rw [henc, hb]

/-- One step, by cases (47_system.md R320, R326). -/
theorem step_cases :
    (s.stopped = true ∧ step s = .refused .stopped) ∨
    (s.stopped = false ∧ 0x10000 < s.pc.toNat + opLength (read8 s s.pc) ∧ step s = .fault (.fetchWrap s.pc)) ∨
    (s.stopped = false ∧ s.pc.toNat + opLength (read8 s s.pc) ≤ 0x10000 ∧ ∃ i, fetch s = .ok i ∧ i.wellFormed = true ∧
      i.form.length = opLength (read8 s s.pc) ∧ encode i = fetchBytes s (opLength (read8 s s.pc)) ∧
      step s = retire i s (exec i s)) := by
  unfold step
  cases hs : s.stopped
  · rcases fetch_cases s with ⟨hw, hf⟩ | ⟨hw, i, hf, hwf, hlen, henc⟩
    · exact .inr (.inl ⟨rfl, hw, by simp [hf]⟩)
    · exact .inr (.inr ⟨rfl, hw, i, hf, hwf, hlen, henc, by simp [hf]⟩)
  · exact .inl ⟨rfl, rfl⟩

/-- What `retire` adds to a meaning that answers a next state. -/
theorem retire_next {i : Instr} {r : Result} {u : State} (h : retire i s r = .next u) :
    ∃ t, r = .next t ∧ u = if i.form.ticks then tick (i.form.tickCycles s.f) s.imePending t else t := by
  cases r with
  | next t => exact ⟨t, rfl, by simpa [retire] using h.symm⟩
  | fault e => simp [retire] at h
  | refused e => simp [retire] at h

/-- A step that answers a next state ran a decoded instruction, and its `Tick` if it has one. -/
theorem step_next {u : State} (h : step s = .next u) :
    ∃ i t, i.wellFormed = true ∧ exec i s = .next t ∧
      u = if i.form.ticks then tick (i.form.tickCycles s.f) s.imePending t else t := by
  rcases step_cases s with ⟨-, hr⟩ | ⟨-, -, hr⟩ | ⟨-, -, i, -, hwf, -, -, hr⟩
  · rw [hr] at h; simp at h
  · rw [hr] at h; simp at h
  · rw [hr] at h
    obtain ⟨t, ht, hu⟩ := retire_next s h
    exact ⟨i, t, hwf, ht, hu⟩

end Sys2Proof.Machine
end

