-- ==== Sys2Proof/Machine/Asm.lean ====
section
/-! DEFINITION. The assembler syntax of 30_encoding.md R112-R115: the text of an instruction, in the spelling of this spec, with its operand
values in hexadecimal; and the displacement byte that reaches a target. No step uses it. -/

namespace Sys2Proof

/-- One hexadecimal digit. -/
def hexDigit (n : Nat) : Char := if n < 10 then Char.ofNat (48 + n) else Char.ofNat (55 + n)

/-- The two hexadecimal digits of a byte. -/
def hexByte (v : Byte) : String := String.ofList [hexDigit (v.toNat / 16), hexDigit (v.toNat % 16)]

/-- A byte as a number in hexadecimal with `0x` (R112). -/
def asmByte (v : Byte) : String := "0x" ++ hexByte v

/-- A word as a number in hexadecimal with `0x` (R112). -/
def asmWord (w : Word) : String := "0x" ++ hexByte (hiByte w) ++ hexByte (loByte w)

/-- The spelling of a member of table `r` (R96, R112). -/
def R8.asm : R8 → String
  | .b => "B"
  | .c => "C"
  | .d => "D"
  | .e => "E"
  | .h => "H"
  | .l => "L"
  | .atHl => "(HL)"
  | .a => "A"

/-- The spelling of a member of table `rp` (R97). -/
def Rp.asm : Rp → String
  | .bc => "BC"
  | .de => "DE"
  | .hl => "HL"
  | .sp => "SP"

/-- The spelling of a member of table `rp2` (R98). -/
def Rp2.asm : Rp2 → String
  | .bc => "BC"
  | .de => "DE"
  | .hl => "HL"
  | .af => "AF"

/-- `(BC)` and `(DE)`. -/
def IndPair.asm : IndPair → String
  | .bc => "(BC)"
  | .de => "(DE)"

/-- The spelling of a condition (R99). -/
def Cond.asm : Cond → String
  | .nz => "NZ"
  | .z => "Z"
  | .nc => "NC"
  | .c => "C"

/-- The mnemonic of an 8-bit operation (R100). -/
def AluOp.asm : AluOp → String
  | .add => "ADD"
  | .adc => "ADC"
  | .sub => "SUB"
  | .sbc => "SBC"
  | .and => "AND"
  | .xor => "XOR"
  | .or => "OR"
  | .cp => "CP"

/-- The mnemonic of a CB rotate or shift (R101). -/
def RotOp.asm : RotOp → String
  | .rlc => "RLC"
  | .rrc => "RRC"
  | .rl => "RL"
  | .rr => "RR"
  | .sla => "SLA"
  | .sra => "SRA"
  | .swap => "SWAP"
  | .srl => "SRL"

/-- The mnemonic of an accumulator rotate. -/
def RotAOp.asm : RotAOp → String
  | .rlca => "RLCA"
  | .rrca => "RRCA"
  | .rla => "RLA"
  | .rra => "RRA"

/-- The text of a bit instruction: the bit index, then the operand (R115). -/
def asmBit (mnemonic : String) (n : Fin 8) (x : R8) : String :=
  mnemonic ++ " " ++ String.ofList [hexDigit n.val] ++ "," ++ x.asm

/-- The text of a CB instruction. -/
def CbForm.asm : CbForm → String
  | .rot op x => op.asm ++ " " ++ x.asm
  | .bit n x => asmBit "BIT" n x
  | .res n x => asmBit "RES" n x
  | .set n x => asmBit "SET" n x

/-- The text of an instruction: `MNEMONIC dst,src` (R112), an operand byte or word by its value. -/
def Form.asm : Form → String
  | .nop => "NOP"
  | .ld8 dst src => "LD " ++ dst.asm ++ "," ++ src.asm
  | .ldImm8 dst d8 => "LD " ++ dst.asm ++ "," ++ asmByte d8
  | .ldAInd p => "LD A," ++ p.asm
  | .ldIndA p => "LD " ++ p.asm ++ ",A"
  | .ldAA16 a16 => "LD A,(" ++ asmWord a16 ++ ")"
  | .ldA16A a16 => "LD (" ++ asmWord a16 ++ "),A"
  | .ldhAC => "LDH A,(C)"
  | .ldhCA => "LDH (C),A"
  | .ldhAA8 a8 => "LDH A,(" ++ asmByte a8 ++ ")"
  | .ldhA8A a8 => "LDH (" ++ asmByte a8 ++ "),A"
  | .ldAHli => "LD A,(HL+)"
  | .ldAHld => "LD A,(HL-)"
  | .ldHliA => "LD (HL+),A"
  | .ldHldA => "LD (HL-),A"
  | .ldRp16 rr d16 => "LD " ++ rr.asm ++ "," ++ asmWord d16
  | .ldA16Sp a16 => "LD (" ++ asmWord a16 ++ "),SP"
  | .ldSpHl => "LD SP,HL"
  | .ldHlSpE8 e8 => "LD HL,SP+" ++ asmByte e8
  | .push rr => "PUSH " ++ rr.asm
  | .pop rr => "POP " ++ rr.asm
  | .alu op x => op.asm ++ " A," ++ x.asm
  | .aluImm op d8 => op.asm ++ " A," ++ asmByte d8
  | .inc8 x => "INC " ++ x.asm
  | .dec8 x => "DEC " ++ x.asm
  | .daa => "DAA"
  | .cpl => "CPL"
  | .scf => "SCF"
  | .ccf => "CCF"
  | .addHl rr => "ADD HL," ++ rr.asm
  | .addSp e8 => "ADD SP," ++ asmByte e8
  | .inc16 rr => "INC " ++ rr.asm
  | .dec16 rr => "DEC " ++ rr.asm
  | .rotA op => op.asm
  | .cb op => op.asm
  | .jp a16 => "JP " ++ asmWord a16
  | .jpCc cc a16 => "JP " ++ cc.asm ++ "," ++ asmWord a16
  | .jpHl => "JP HL"
  | .jr e8 => "JR " ++ asmByte e8
  | .jrCc cc e8 => "JR " ++ cc.asm ++ "," ++ asmByte e8
  | .call a16 => "CALL " ++ asmWord a16
  | .callCc cc a16 => "CALL " ++ cc.asm ++ "," ++ asmWord a16
  | .ret => "RET"
  | .retCc cc => "RET " ++ cc.asm
  | .reti => "RETI"
  | .rst y => "RST " ++ asmByte (loByte (rstVector y))
  | .halt => "HALT"
  | .stop _ => "STOP"
  | .di => "DI"
  | .ei => "EI"
  | .invalid op => "INVALID_" ++ hexByte op

/-- The displacement byte of a `JR` to `target`, `next` being the address after it, for a target in `next - 128 .. next + 127` (R114). -/
def displacementTo (next target : Word) : Option Byte :=
  let e := loByte (target - next)
  if next + sext16 e = target then some e else none

end Sys2Proof
end

