-- ==== Sys2Proof/Machine/Loader.lean ====
section
/-! DEFINITION. How a cartridge image becomes the parameters of the machine (70_reset_and_hazards.md R427 item 6): the header bytes that
give `MBC_KIND` and `ERAM_SIZE`, and the images no machine is built from. -/

namespace Sys2Proof.Machine

/-- `MBC_KIND` by the header byte 0x147; a code the loader does not know builds nothing. -/
def mbcOfCode (code : Byte) : Option MbcKind :=
  let n := code.toNat
  if n = 0x00 then some .none
  else if 0x01 ≤ n ∧ n ≤ 0x03 then some .mbc1
  else if 0x05 ≤ n ∧ n ≤ 0x06 then some .mbc2
  else if 0x0F ≤ n ∧ n ≤ 0x13 then some .mbc3
  else if 0x19 ≤ n ∧ n ≤ 0x1E then some .mbc5
  else none

/-- `ERAM_SIZE` by the header byte 0x149, forced to 512 for MBC2; a code not in the list builds nothing. -/
def eramSizeOfCode (kind : MbcKind) (code : Byte) : Option Nat :=
  if kind = .mbc2 then some 512
  else match code.toNat with
    | 0 => some 0
    | 1 => some 0x800
    | 2 => some 0x2000
    | 3 => some 0x8000
    | 4 => some 0x20000
    | 5 => some 0x10000
    | _ => none

/-- The cartridge an image of `size` bytes gives; `none` is the tool's `InvalidCartridge` (60_exceptions.md R382). -/
def loadCartridge (image : Memory) (size : Nat) : Option Cartridge :=
  if size < 0x150 then none
  else do
    let kind ← mbcOfCode (Memory.read image 0x147)
    let eramSize ← eramSizeOfCode kind (Memory.read image 0x149)
    some ⟨image, size, kind, eramSize⟩

end Sys2Proof.Machine
end

