-- ==== Sys2Proof/Tests/Slice0.lean ====
section
/-! SUPPORT. Tests: words written out from the encoding tables, one-step vectors of spec/95_test_vectors.md and spec/96_system_vectors.md,
and a witness for the hypotheses of every obligation that has some. -/

namespace Sys2Proof.Tests
open Sys2Proof Sys2Proof.Machine Sys2Proof.Stmt

/-! ### Helpers -/

/-- The base state of 95_test_vectors.md section 2.0 for single instructions: reset, F = 0x00, PC = 0xC000. -/
def base : State := { State.reset with pc := 0xC000, f := ⟨false, false, false, false⟩ }

/-- `s` with the bytes of an instruction staged at PC. -/
def code (bytes : List Byte) (s : State) : State := placeAll bytes s.pc s

/-- The state after one step, if there is one. -/
def after (s : State) : Option State :=
  match step s with
  | .next t => some t
  | .fault _ => none
  | .refused _ => none

/-- The fault one step ends in, if it does. -/
def faultOf (s : State) : Option Fault :=
  match step s with
  | .fault e => some e
  | .next _ => none
  | .refused _ => none

/-- What `after` finds is what `step` answers. -/
theorem step_of_after {s t : State} (h : after s = some t) : step s = .next t := by
  unfold after at h
  split at h <;> simp_all

/-- A property of the state after a step, as a Bool. -/
def afterHas (s : State) (p : State → Bool) : Bool :=
  match step s with
  | .next t => p t
  | .fault _ => false
  | .refused _ => false

/-- A step that `afterHas` a property has a next state with it. -/
theorem exists_of_afterHas {s : State} {p : State → Bool} (h : afterHas s p = true) : ∃ t, step s = .next t ∧ p t = true := by
  unfold afterHas at h
  split at h
  · exact ⟨_, ‹_›, h⟩
  · cases h
  · cases h

/-! ### Decoding: every row of spec/opcode_table.json, the bytes written out from its "encoding" (30_encoding.md R92, R102-R107); an operand
byte is 0x5A, an operand word 0x1234, low byte first (R94). -/

/-- Each list of bytes decodes to the instruction beside it, with no byte left. -/
def decodesTo (rows : List (List Byte × Instr)) : Bool := rows.all fun row => decide (decode row.1 = .ok (row.2, []))

theorem test_decode_base_0x : decodesTo [
    ([0b00000000], .nop), ([0b00000001, 0x34, 0x12], .ldBcD16 0x1234), ([0b00000010], .ldAtBcA), ([0b00000011], .incBc),
    ([0b00000100], .incB), ([0b00000101], .decB), ([0b00000110, 0x5A], .ldBD8 0x5A), ([0b00000111], .rlca),
    ([0b00001000, 0x34, 0x12], .ldAtA16Sp 0x1234), ([0b00001001], .addHlBc), ([0b00001010], .ldAAtBc), ([0b00001011], .decBc),
    ([0b00001100], .incC), ([0b00001101], .decC), ([0b00001110, 0x5A], .ldCD8 0x5A), ([0b00001111], .rrca)] = true := by decide

theorem test_decode_base_1x : decodesTo [
    ([0b00010000, 0x5A], .stop 0x5A), ([0b00010001, 0x34, 0x12], .ldDeD16 0x1234), ([0b00010010], .ldAtDeA), ([0b00010011], .incDe),
    ([0b00010100], .incD), ([0b00010101], .decD), ([0b00010110, 0x5A], .ldDD8 0x5A), ([0b00010111], .rla),
    ([0b00011000, 0x5A], .jrE8 0x5A), ([0b00011001], .addHlDe), ([0b00011010], .ldAAtDe), ([0b00011011], .decDe),
    ([0b00011100], .incE), ([0b00011101], .decE), ([0b00011110, 0x5A], .ldED8 0x5A), ([0b00011111], .rra)] = true := by decide

theorem test_decode_base_2x : decodesTo [
    ([0b00100000, 0x5A], .jrNzE8 0x5A), ([0b00100001, 0x34, 0x12], .ldHlD16 0x1234), ([0b00100010], .ldAtHlIncA), ([0b00100011], .incHl),
    ([0b00100100], .incH), ([0b00100101], .decH), ([0b00100110, 0x5A], .ldHD8 0x5A), ([0b00100111], .daa),
    ([0b00101000, 0x5A], .jrZE8 0x5A), ([0b00101001], .addHlHl), ([0b00101010], .ldAAtHlInc), ([0b00101011], .decHl),
    ([0b00101100], .incL), ([0b00101101], .decL), ([0b00101110, 0x5A], .ldLD8 0x5A), ([0b00101111], .cpl)] = true := by decide

theorem test_decode_base_3x : decodesTo [
    ([0b00110000, 0x5A], .jrNcE8 0x5A), ([0b00110001, 0x34, 0x12], .ldSpD16 0x1234), ([0b00110010], .ldAtHlDecA), ([0b00110011], .incSp),
    ([0b00110100], .incAtHl), ([0b00110101], .decAtHl), ([0b00110110, 0x5A], .ldAtHlD8 0x5A), ([0b00110111], .scf),
    ([0b00111000, 0x5A], .jrCE8 0x5A), ([0b00111001], .addHlSp), ([0b00111010], .ldAAtHlDec), ([0b00111011], .decSp),
    ([0b00111100], .incA), ([0b00111101], .decA), ([0b00111110, 0x5A], .ldAD8 0x5A), ([0b00111111], .ccf)] = true := by decide

theorem test_decode_base_4x : decodesTo [
    ([0b01000000], .ldBB), ([0b01000001], .ldBC), ([0b01000010], .ldBD), ([0b01000011], .ldBE),
    ([0b01000100], .ldBH), ([0b01000101], .ldBL), ([0b01000110], .ldBAtHl), ([0b01000111], .ldBA),
    ([0b01001000], .ldCB), ([0b01001001], .ldCC), ([0b01001010], .ldCD), ([0b01001011], .ldCE),
    ([0b01001100], .ldCH), ([0b01001101], .ldCL), ([0b01001110], .ldCAtHl), ([0b01001111], .ldCA)] = true := by decide

theorem test_decode_base_5x : decodesTo [
    ([0b01010000], .ldDB), ([0b01010001], .ldDC), ([0b01010010], .ldDD), ([0b01010011], .ldDE),
    ([0b01010100], .ldDH), ([0b01010101], .ldDL), ([0b01010110], .ldDAtHl), ([0b01010111], .ldDA),
    ([0b01011000], .ldEB), ([0b01011001], .ldEC), ([0b01011010], .ldED), ([0b01011011], .ldEE),
    ([0b01011100], .ldEH), ([0b01011101], .ldEL), ([0b01011110], .ldEAtHl), ([0b01011111], .ldEA)] = true := by decide

theorem test_decode_base_6x : decodesTo [
    ([0b01100000], .ldHB), ([0b01100001], .ldHC), ([0b01100010], .ldHD), ([0b01100011], .ldHE),
    ([0b01100100], .ldHH), ([0b01100101], .ldHL), ([0b01100110], .ldHAtHl), ([0b01100111], .ldHA),
    ([0b01101000], .ldLB), ([0b01101001], .ldLC), ([0b01101010], .ldLD), ([0b01101011], .ldLE),
    ([0b01101100], .ldLH), ([0b01101101], .ldLL), ([0b01101110], .ldLAtHl), ([0b01101111], .ldLA)] = true := by decide

theorem test_decode_base_7x : decodesTo [
    ([0b01110000], .ldAtHlB), ([0b01110001], .ldAtHlC), ([0b01110010], .ldAtHlD), ([0b01110011], .ldAtHlE),
    ([0b01110100], .ldAtHlH), ([0b01110101], .ldAtHlL), ([0b01110110], .halt), ([0b01110111], .ldAtHlA),
    ([0b01111000], .ldAB), ([0b01111001], .ldAC), ([0b01111010], .ldAD), ([0b01111011], .ldAE),
    ([0b01111100], .ldAH), ([0b01111101], .ldAL), ([0b01111110], .ldAAtHl), ([0b01111111], .ldAA)] = true := by decide

theorem test_decode_base_8x : decodesTo [
    ([0b10000000], .addAB), ([0b10000001], .addAC), ([0b10000010], .addAD), ([0b10000011], .addAE),
    ([0b10000100], .addAH), ([0b10000101], .addAL), ([0b10000110], .addAAtHl), ([0b10000111], .addAA),
    ([0b10001000], .adcAB), ([0b10001001], .adcAC), ([0b10001010], .adcAD), ([0b10001011], .adcAE),
    ([0b10001100], .adcAH), ([0b10001101], .adcAL), ([0b10001110], .adcAAtHl), ([0b10001111], .adcAA)] = true := by decide

theorem test_decode_base_9x : decodesTo [
    ([0b10010000], .subAB), ([0b10010001], .subAC), ([0b10010010], .subAD), ([0b10010011], .subAE),
    ([0b10010100], .subAH), ([0b10010101], .subAL), ([0b10010110], .subAAtHl), ([0b10010111], .subAA),
    ([0b10011000], .sbcAB), ([0b10011001], .sbcAC), ([0b10011010], .sbcAD), ([0b10011011], .sbcAE),
    ([0b10011100], .sbcAH), ([0b10011101], .sbcAL), ([0b10011110], .sbcAAtHl), ([0b10011111], .sbcAA)] = true := by decide

theorem test_decode_base_Ax : decodesTo [
    ([0b10100000], .andAB), ([0b10100001], .andAC), ([0b10100010], .andAD), ([0b10100011], .andAE),
    ([0b10100100], .andAH), ([0b10100101], .andAL), ([0b10100110], .andAAtHl), ([0b10100111], .andAA),
    ([0b10101000], .xorAB), ([0b10101001], .xorAC), ([0b10101010], .xorAD), ([0b10101011], .xorAE),
    ([0b10101100], .xorAH), ([0b10101101], .xorAL), ([0b10101110], .xorAAtHl), ([0b10101111], .xorAA)] = true := by decide

theorem test_decode_base_Bx : decodesTo [
    ([0b10110000], .orAB), ([0b10110001], .orAC), ([0b10110010], .orAD), ([0b10110011], .orAE),
    ([0b10110100], .orAH), ([0b10110101], .orAL), ([0b10110110], .orAAtHl), ([0b10110111], .orAA),
    ([0b10111000], .cpAB), ([0b10111001], .cpAC), ([0b10111010], .cpAD), ([0b10111011], .cpAE),
    ([0b10111100], .cpAH), ([0b10111101], .cpAL), ([0b10111110], .cpAAtHl), ([0b10111111], .cpAA)] = true := by decide

theorem test_decode_base_Cx : decodesTo [
    ([0b11000000], .retNz), ([0b11000001], .popBc), ([0b11000010, 0x34, 0x12], .jpNzA16 0x1234), ([0b11000011, 0x34, 0x12], .jpA16 0x1234),
    ([0b11000100, 0x34, 0x12], .callNzA16 0x1234), ([0b11000101], .pushBc), ([0b11000110, 0x5A], .addAD8 0x5A), ([0b11000111], .rst00),
    ([0b11001000], .retZ), ([0b11001001], .ret), ([0b11001010, 0x34, 0x12], .jpZA16 0x1234), ([0b11001100, 0x34, 0x12], .callZA16 0x1234),
    ([0b11001101, 0x34, 0x12], .callA16 0x1234), ([0b11001110, 0x5A], .adcAD8 0x5A), ([0b11001111], .rst08)] = true := by decide

theorem test_decode_base_Dx : decodesTo [
    ([0b11010000], .retNc), ([0b11010001], .popDe), ([0b11010010, 0x34, 0x12], .jpNcA16 0x1234), ([0b11010011], .invalidD3),
    ([0b11010100, 0x34, 0x12], .callNcA16 0x1234), ([0b11010101], .pushDe), ([0b11010110, 0x5A], .subAD8 0x5A), ([0b11010111], .rst10),
    ([0b11011000], .retC), ([0b11011001], .reti), ([0b11011010, 0x34, 0x12], .jpCA16 0x1234), ([0b11011011], .invalidDB),
    ([0b11011100, 0x34, 0x12], .callCA16 0x1234), ([0b11011101], .invalidDD), ([0b11011110, 0x5A], .sbcAD8 0x5A), ([0b11011111], .rst18)] = true := by decide

theorem test_decode_base_Ex : decodesTo [
    ([0b11100000, 0x5A], .ldhAtA8A 0x5A), ([0b11100001], .popHl), ([0b11100010], .ldhAtCA), ([0b11100011], .invalidE3),
    ([0b11100100], .invalidE4), ([0b11100101], .pushHl), ([0b11100110, 0x5A], .andAD8 0x5A), ([0b11100111], .rst20),
    ([0b11101000, 0x5A], .addSpE8 0x5A), ([0b11101001], .jpHl), ([0b11101010, 0x34, 0x12], .ldAtA16A 0x1234), ([0b11101011], .invalidEB),
    ([0b11101100], .invalidEC), ([0b11101101], .invalidED), ([0b11101110, 0x5A], .xorAD8 0x5A), ([0b11101111], .rst28)] = true := by decide

theorem test_decode_base_Fx : decodesTo [
    ([0b11110000, 0x5A], .ldhAAtA8 0x5A), ([0b11110001], .popAf), ([0b11110010], .ldhAAtC), ([0b11110011], .di),
    ([0b11110100], .invalidF4), ([0b11110101], .pushAf), ([0b11110110, 0x5A], .orAD8 0x5A), ([0b11110111], .rst30),
    ([0b11111000, 0x5A], .ldHlSpE8 0x5A), ([0b11111001], .ldSpHl), ([0b11111010, 0x34, 0x12], .ldAAtA16 0x1234), ([0b11111011], .ei),
    ([0b11111100], .invalidFC), ([0b11111101], .invalidFD), ([0b11111110, 0x5A], .cpAD8 0x5A), ([0b11111111], .rst38)] = true := by decide

theorem test_decode_cb_0x : decodesTo [
    ([0b11001011, 0b00000000], .rlcB), ([0b11001011, 0b00000001], .rlcC), ([0b11001011, 0b00000010], .rlcD), ([0b11001011, 0b00000011], .rlcE),
    ([0b11001011, 0b00000100], .rlcH), ([0b11001011, 0b00000101], .rlcL), ([0b11001011, 0b00000110], .rlcAtHl), ([0b11001011, 0b00000111], .rlcA),
    ([0b11001011, 0b00001000], .rrcB), ([0b11001011, 0b00001001], .rrcC), ([0b11001011, 0b00001010], .rrcD), ([0b11001011, 0b00001011], .rrcE),
    ([0b11001011, 0b00001100], .rrcH), ([0b11001011, 0b00001101], .rrcL), ([0b11001011, 0b00001110], .rrcAtHl), ([0b11001011, 0b00001111], .rrcA)] = true := by decide

theorem test_decode_cb_1x : decodesTo [
    ([0b11001011, 0b00010000], .rlB), ([0b11001011, 0b00010001], .rlC), ([0b11001011, 0b00010010], .rlD), ([0b11001011, 0b00010011], .rlE),
    ([0b11001011, 0b00010100], .rlH), ([0b11001011, 0b00010101], .rlL), ([0b11001011, 0b00010110], .rlAtHl), ([0b11001011, 0b00010111], .rlA),
    ([0b11001011, 0b00011000], .rrB), ([0b11001011, 0b00011001], .rrC), ([0b11001011, 0b00011010], .rrD), ([0b11001011, 0b00011011], .rrE),
    ([0b11001011, 0b00011100], .rrH), ([0b11001011, 0b00011101], .rrL), ([0b11001011, 0b00011110], .rrAtHl), ([0b11001011, 0b00011111], .rrA)] = true := by decide

theorem test_decode_cb_2x : decodesTo [
    ([0b11001011, 0b00100000], .slaB), ([0b11001011, 0b00100001], .slaC), ([0b11001011, 0b00100010], .slaD), ([0b11001011, 0b00100011], .slaE),
    ([0b11001011, 0b00100100], .slaH), ([0b11001011, 0b00100101], .slaL), ([0b11001011, 0b00100110], .slaAtHl), ([0b11001011, 0b00100111], .slaA),
    ([0b11001011, 0b00101000], .sraB), ([0b11001011, 0b00101001], .sraC), ([0b11001011, 0b00101010], .sraD), ([0b11001011, 0b00101011], .sraE),
    ([0b11001011, 0b00101100], .sraH), ([0b11001011, 0b00101101], .sraL), ([0b11001011, 0b00101110], .sraAtHl), ([0b11001011, 0b00101111], .sraA)] = true := by decide

theorem test_decode_cb_3x : decodesTo [
    ([0b11001011, 0b00110000], .swapB), ([0b11001011, 0b00110001], .swapC), ([0b11001011, 0b00110010], .swapD), ([0b11001011, 0b00110011], .swapE),
    ([0b11001011, 0b00110100], .swapH), ([0b11001011, 0b00110101], .swapL), ([0b11001011, 0b00110110], .swapAtHl), ([0b11001011, 0b00110111], .swapA),
    ([0b11001011, 0b00111000], .srlB), ([0b11001011, 0b00111001], .srlC), ([0b11001011, 0b00111010], .srlD), ([0b11001011, 0b00111011], .srlE),
    ([0b11001011, 0b00111100], .srlH), ([0b11001011, 0b00111101], .srlL), ([0b11001011, 0b00111110], .srlAtHl), ([0b11001011, 0b00111111], .srlA)] = true := by decide

theorem test_decode_cb_4x : decodesTo [
    ([0b11001011, 0b01000000], .bit0B), ([0b11001011, 0b01000001], .bit0C), ([0b11001011, 0b01000010], .bit0D), ([0b11001011, 0b01000011], .bit0E),
    ([0b11001011, 0b01000100], .bit0H), ([0b11001011, 0b01000101], .bit0L), ([0b11001011, 0b01000110], .bit0AtHl), ([0b11001011, 0b01000111], .bit0A),
    ([0b11001011, 0b01001000], .bit1B), ([0b11001011, 0b01001001], .bit1C), ([0b11001011, 0b01001010], .bit1D), ([0b11001011, 0b01001011], .bit1E),
    ([0b11001011, 0b01001100], .bit1H), ([0b11001011, 0b01001101], .bit1L), ([0b11001011, 0b01001110], .bit1AtHl), ([0b11001011, 0b01001111], .bit1A)] = true := by decide

theorem test_decode_cb_5x : decodesTo [
    ([0b11001011, 0b01010000], .bit2B), ([0b11001011, 0b01010001], .bit2C), ([0b11001011, 0b01010010], .bit2D), ([0b11001011, 0b01010011], .bit2E),
    ([0b11001011, 0b01010100], .bit2H), ([0b11001011, 0b01010101], .bit2L), ([0b11001011, 0b01010110], .bit2AtHl), ([0b11001011, 0b01010111], .bit2A),
    ([0b11001011, 0b01011000], .bit3B), ([0b11001011, 0b01011001], .bit3C), ([0b11001011, 0b01011010], .bit3D), ([0b11001011, 0b01011011], .bit3E),
    ([0b11001011, 0b01011100], .bit3H), ([0b11001011, 0b01011101], .bit3L), ([0b11001011, 0b01011110], .bit3AtHl), ([0b11001011, 0b01011111], .bit3A)] = true := by decide

theorem test_decode_cb_6x : decodesTo [
    ([0b11001011, 0b01100000], .bit4B), ([0b11001011, 0b01100001], .bit4C), ([0b11001011, 0b01100010], .bit4D), ([0b11001011, 0b01100011], .bit4E),
    ([0b11001011, 0b01100100], .bit4H), ([0b11001011, 0b01100101], .bit4L), ([0b11001011, 0b01100110], .bit4AtHl), ([0b11001011, 0b01100111], .bit4A),
    ([0b11001011, 0b01101000], .bit5B), ([0b11001011, 0b01101001], .bit5C), ([0b11001011, 0b01101010], .bit5D), ([0b11001011, 0b01101011], .bit5E),
    ([0b11001011, 0b01101100], .bit5H), ([0b11001011, 0b01101101], .bit5L), ([0b11001011, 0b01101110], .bit5AtHl), ([0b11001011, 0b01101111], .bit5A)] = true := by decide

theorem test_decode_cb_7x : decodesTo [
    ([0b11001011, 0b01110000], .bit6B), ([0b11001011, 0b01110001], .bit6C), ([0b11001011, 0b01110010], .bit6D), ([0b11001011, 0b01110011], .bit6E),
    ([0b11001011, 0b01110100], .bit6H), ([0b11001011, 0b01110101], .bit6L), ([0b11001011, 0b01110110], .bit6AtHl), ([0b11001011, 0b01110111], .bit6A),
    ([0b11001011, 0b01111000], .bit7B), ([0b11001011, 0b01111001], .bit7C), ([0b11001011, 0b01111010], .bit7D), ([0b11001011, 0b01111011], .bit7E),
    ([0b11001011, 0b01111100], .bit7H), ([0b11001011, 0b01111101], .bit7L), ([0b11001011, 0b01111110], .bit7AtHl), ([0b11001011, 0b01111111], .bit7A)] = true := by decide

theorem test_decode_cb_8x : decodesTo [
    ([0b11001011, 0b10000000], .res0B), ([0b11001011, 0b10000001], .res0C), ([0b11001011, 0b10000010], .res0D), ([0b11001011, 0b10000011], .res0E),
    ([0b11001011, 0b10000100], .res0H), ([0b11001011, 0b10000101], .res0L), ([0b11001011, 0b10000110], .res0AtHl), ([0b11001011, 0b10000111], .res0A),
    ([0b11001011, 0b10001000], .res1B), ([0b11001011, 0b10001001], .res1C), ([0b11001011, 0b10001010], .res1D), ([0b11001011, 0b10001011], .res1E),
    ([0b11001011, 0b10001100], .res1H), ([0b11001011, 0b10001101], .res1L), ([0b11001011, 0b10001110], .res1AtHl), ([0b11001011, 0b10001111], .res1A)] = true := by decide

theorem test_decode_cb_9x : decodesTo [
    ([0b11001011, 0b10010000], .res2B), ([0b11001011, 0b10010001], .res2C), ([0b11001011, 0b10010010], .res2D), ([0b11001011, 0b10010011], .res2E),
    ([0b11001011, 0b10010100], .res2H), ([0b11001011, 0b10010101], .res2L), ([0b11001011, 0b10010110], .res2AtHl), ([0b11001011, 0b10010111], .res2A),
    ([0b11001011, 0b10011000], .res3B), ([0b11001011, 0b10011001], .res3C), ([0b11001011, 0b10011010], .res3D), ([0b11001011, 0b10011011], .res3E),
    ([0b11001011, 0b10011100], .res3H), ([0b11001011, 0b10011101], .res3L), ([0b11001011, 0b10011110], .res3AtHl), ([0b11001011, 0b10011111], .res3A)] = true := by decide

theorem test_decode_cb_Ax : decodesTo [
    ([0b11001011, 0b10100000], .res4B), ([0b11001011, 0b10100001], .res4C), ([0b11001011, 0b10100010], .res4D), ([0b11001011, 0b10100011], .res4E),
    ([0b11001011, 0b10100100], .res4H), ([0b11001011, 0b10100101], .res4L), ([0b11001011, 0b10100110], .res4AtHl), ([0b11001011, 0b10100111], .res4A),
    ([0b11001011, 0b10101000], .res5B), ([0b11001011, 0b10101001], .res5C), ([0b11001011, 0b10101010], .res5D), ([0b11001011, 0b10101011], .res5E),
    ([0b11001011, 0b10101100], .res5H), ([0b11001011, 0b10101101], .res5L), ([0b11001011, 0b10101110], .res5AtHl), ([0b11001011, 0b10101111], .res5A)] = true := by decide

theorem test_decode_cb_Bx : decodesTo [
    ([0b11001011, 0b10110000], .res6B), ([0b11001011, 0b10110001], .res6C), ([0b11001011, 0b10110010], .res6D), ([0b11001011, 0b10110011], .res6E),
    ([0b11001011, 0b10110100], .res6H), ([0b11001011, 0b10110101], .res6L), ([0b11001011, 0b10110110], .res6AtHl), ([0b11001011, 0b10110111], .res6A),
    ([0b11001011, 0b10111000], .res7B), ([0b11001011, 0b10111001], .res7C), ([0b11001011, 0b10111010], .res7D), ([0b11001011, 0b10111011], .res7E),
    ([0b11001011, 0b10111100], .res7H), ([0b11001011, 0b10111101], .res7L), ([0b11001011, 0b10111110], .res7AtHl), ([0b11001011, 0b10111111], .res7A)] = true := by decide

theorem test_decode_cb_Cx : decodesTo [
    ([0b11001011, 0b11000000], .set0B), ([0b11001011, 0b11000001], .set0C), ([0b11001011, 0b11000010], .set0D), ([0b11001011, 0b11000011], .set0E),
    ([0b11001011, 0b11000100], .set0H), ([0b11001011, 0b11000101], .set0L), ([0b11001011, 0b11000110], .set0AtHl), ([0b11001011, 0b11000111], .set0A),
    ([0b11001011, 0b11001000], .set1B), ([0b11001011, 0b11001001], .set1C), ([0b11001011, 0b11001010], .set1D), ([0b11001011, 0b11001011], .set1E),
    ([0b11001011, 0b11001100], .set1H), ([0b11001011, 0b11001101], .set1L), ([0b11001011, 0b11001110], .set1AtHl), ([0b11001011, 0b11001111], .set1A)] = true := by decide

theorem test_decode_cb_Dx : decodesTo [
    ([0b11001011, 0b11010000], .set2B), ([0b11001011, 0b11010001], .set2C), ([0b11001011, 0b11010010], .set2D), ([0b11001011, 0b11010011], .set2E),
    ([0b11001011, 0b11010100], .set2H), ([0b11001011, 0b11010101], .set2L), ([0b11001011, 0b11010110], .set2AtHl), ([0b11001011, 0b11010111], .set2A),
    ([0b11001011, 0b11011000], .set3B), ([0b11001011, 0b11011001], .set3C), ([0b11001011, 0b11011010], .set3D), ([0b11001011, 0b11011011], .set3E),
    ([0b11001011, 0b11011100], .set3H), ([0b11001011, 0b11011101], .set3L), ([0b11001011, 0b11011110], .set3AtHl), ([0b11001011, 0b11011111], .set3A)] = true := by decide

theorem test_decode_cb_Ex : decodesTo [
    ([0b11001011, 0b11100000], .set4B), ([0b11001011, 0b11100001], .set4C), ([0b11001011, 0b11100010], .set4D), ([0b11001011, 0b11100011], .set4E),
    ([0b11001011, 0b11100100], .set4H), ([0b11001011, 0b11100101], .set4L), ([0b11001011, 0b11100110], .set4AtHl), ([0b11001011, 0b11100111], .set4A),
    ([0b11001011, 0b11101000], .set5B), ([0b11001011, 0b11101001], .set5C), ([0b11001011, 0b11101010], .set5D), ([0b11001011, 0b11101011], .set5E),
    ([0b11001011, 0b11101100], .set5H), ([0b11001011, 0b11101101], .set5L), ([0b11001011, 0b11101110], .set5AtHl), ([0b11001011, 0b11101111], .set5A)] = true := by decide

theorem test_decode_cb_Fx : decodesTo [
    ([0b11001011, 0b11110000], .set6B), ([0b11001011, 0b11110001], .set6C), ([0b11001011, 0b11110010], .set6D), ([0b11001011, 0b11110011], .set6E),
    ([0b11001011, 0b11110100], .set6H), ([0b11001011, 0b11110101], .set6L), ([0b11001011, 0b11110110], .set6AtHl), ([0b11001011, 0b11110111], .set6A),
    ([0b11001011, 0b11111000], .set7B), ([0b11001011, 0b11111001], .set7C), ([0b11001011, 0b11111010], .set7D), ([0b11001011, 0b11111011], .set7E),
    ([0b11001011, 0b11111100], .set7H), ([0b11001011, 0b11111101], .set7L), ([0b11001011, 0b11111110], .set7AtHl), ([0b11001011, 0b11111111], .set7A)] = true := by decide

/-! ### One-step vectors of the spec -/

/-! Vectors of 95_test_vectors.md section 2.2. -/

theorem test_LD_H_L : (after (code [0x65] { base with h := 0x12, l := 0xCD })).map (fun t => t.h) = some 0xCD := by decide
theorem test_LD_C_0x7F : (after (code [0x0E, 0x7F] { base with f := ⟨true, true, true, true⟩, c := 0x00 })).map (fun t => (t.c, t.f.pack)) = some (0x7F, 0xF0) := by decide
theorem test_LD_H_atHL : (after (code [0x66] (placeAll [0xD2] 0xC100 { base with h := 0xC1, l := 0x00 }))).map (fun t => t.h) = some 0xD2 := by decide
theorem test_LD_atHL_L : (after (code [0x75] { base with h := 0xC1, l := 0x34 })).map (fun t => read8 t 0xC134) = some 0x34 := by decide
theorem test_LD_atHL_0xAB : (after (code [0x36, 0xAB] { base with h := 0xFF, l := 0x80 })).map (fun t => read8 t 0xFF80) = some 0xAB := by decide
theorem test_LD_A_BC : (after (code [0x0A] (placeAll [0x2F] 0xC200 { base with b := 0xC2, c := 0x00 }))).map (fun t => t.a) = some 0x2F := by decide
theorem test_LD_DE_A : (after (code [0x12] { base with d := 0xE2, e := 0x00, a := 0x77 })).map (fun t => (read8 t 0xE200, read8 t 0xC200)) = some (0x77, 0x77) := by decide
theorem test_LD_A_0xC234 : (after (code [0xFA, 0x34, 0xC2] (placeAll [0x5C] 0xC234 base))).map (fun t => t.a) = some 0x5C := by decide
theorem test_LD_0xFFFF_A : (after (code [0xEA, 0xFF, 0xFF] { base with a := 0x1F })).map (fun t => (t.ie, read8 t 0xFFFF)) = some (0x1F, 0x1F) := by decide
theorem test_LDH_A_C : (after (code [0xF2] (placeAll [0x3D] 0xFF80 { base with c := 0x80 }))).map (fun t => t.a) = some 0x3D := by decide
theorem test_LDH_C_A : (after (code [0xE2] { base with c := 0x0F, a := 0x04 })).map (fun t => (t.ifByte, read8 t 0xFF0F)) = some (0x04, 0x04) := by decide
theorem test_LDH_A_0x00 : (after (code [0xF0, 0x00] { base with a := 0x00 })).map (fun t => t.a) = some 0xCF := by decide
theorem test_LDH_0x80_A : (after (code [0xE0, 0x80] { base with a := 0xC3 })).map (fun t => read8 t 0xFF80) = some 0xC3 := by decide
theorem test_LD_A_HLD : (after (code [0x3A] { base with h := 0xC0, l := 0x00, a := 0x00 })).map (fun t => (t.a, t.hl)) = some (0x3A, 0xBFFF) := by decide
theorem test_LD_HLD_A : (after (code [0x32] { base with h := 0x00, l := 0x00, a := 0x12 })).map (fun t => t.hl) = some 0xFFFF := by decide
theorem test_LD_A_HLI : (after (code [0x2A] { base with h := 0xFF, l := 0xFF, a := 0x55 })).map (fun t => (t.a, t.hl)) = some (0x00, 0x0000) := by decide
theorem test_LD_HLI_A : (after (code [0x22] { base with h := 0xC0, l := 0xFF, a := 0x9A })).map (fun t => (read8 t 0xC0FF, t.hl)) = some (0x9A, 0xC100) := by decide

/-! Vectors of 95_test_vectors.md section 2.3. -/

theorem test_LD_BC_0x1234 : (after (code [0x01, 0x34, 0x12] base)).map (fun t => t.bc) = some 0x1234 := by decide
theorem test_LD_0xC100_SP : (after (code [0x08, 0x00, 0xC1] { base with sp := 0xFFF8 })).map (fun t => (read8 t 0xC100, read8 t 0xC101)) = some (0xF8, 0xFF) := by decide
theorem test_LD_0xFFFF_SP : (after (code [0x08, 0xFF, 0xFF] { base with sp := 0x1234 })).map (fun t => (t.ie, read8 t 0xFFFF)) = some (0x34, 0x34) := by decide
theorem test_LD_SP_HL : (after (code [0xF9] { base with f := ⟨true, false, false, false⟩, h := 0xD1, l := 0x23 })).map (fun t => t.sp) = some 0xD123 := by decide
theorem test_LD_HL_SP_0xFF : (after (code [0xF8, 0xFF] { base with sp := 0x0001 })).map (fun t => (t.hl, t.f.pack)) = some (0x0000, 0x30) := by decide
theorem test_LD_HL_SP_0x80 : (after (code [0xF8, 0x80] { base with sp := 0x0100 })).map (fun t => (t.hl, t.f.pack)) = some (0x0080, 0x00) := by decide
theorem test_PUSH_AF : (after (code [0xF5] { base with f := ⟨true, false, true, true⟩, a := 0x12, sp := 0xD000 })).map (fun t => (t.sp, read8 t 0xCFFE)) = some (0xCFFE, 0xB0) := by decide
theorem test_PUSH_HL : (after (code [0xE5] { base with h := 0xAB, l := 0xCD, sp := 0x0001 })).map (fun t => (t.sp, t.ie)) = some (0xFFFF, 0xCD) := by decide
theorem test_POP_DE : (after (code [0xD1] (placeAll [0x78, 0x56] 0xCFFE { base with sp := 0xCFFE }))).map (fun t => (t.sp, t.de)) = some (0xD000, 0x5678) := by decide
theorem test_POP_AF : (after (code [0xF1] (placeAll [0x0F, 0x00] 0xCFFE { base with f := ⟨true, true, true, true⟩, sp := 0xCFFE }))).map (fun t => (t.a, t.f.pack)) = some (0x00, 0x00) := by decide
theorem test_POP_HL : (after (code [0xE1] (placeAll [0x34] 0xFFFF { base with sp := 0xFFFF }))).map (fun t => (t.sp, t.hl)) = some (0x0001, 0x0034) := by decide

/-! Vectors of 95_test_vectors.md section 2.4. -/

theorem test_ADD_A_B : (after (code [0x80] { base with a := 0x3A, b := 0xC6 })).map (fun t => (t.a, t.f.pack)) = some (0x00, 0xB0) := by decide
theorem test_ADD_A_atHL : (after (code [0x86] (placeAll [0x12] 0xC100 { base with a := 0x3C, h := 0xC1, l := 0x00 }))).map (fun t => (t.a, t.f.pack)) = some (0x4E, 0x00) := by decide
theorem test_ADC_A_E : (after (code [0x8B] { base with f := ⟨false, false, false, true⟩, a := 0xE1, e := 0x0F })).map (fun t => (t.a, t.f.pack)) = some (0xF1, 0x20) := by decide
theorem test_ADC_A_0x00 : (after (code [0xCE, 0x00] { base with f := ⟨false, false, false, true⟩, a := 0xFF })).map (fun t => (t.a, t.f.pack)) = some (0x00, 0xB0) := by decide
theorem test_SUB_A_atHL : (after (code [0x96] (placeAll [0x40] 0xC100 { base with a := 0x3E, h := 0xC1, l := 0x00 }))).map (fun t => (t.a, t.f.pack)) = some (0xFE, 0x50) := by decide
theorem test_SBC_A_atHL : (after (code [0x9E] (placeAll [0x4F] 0xC100 { base with f := ⟨false, false, false, true⟩, a := 0x3B, h := 0xC1, l := 0x00 }))).map (fun t => (t.a, t.f.pack)) = some (0xEB, 0x70) := by decide
theorem test_SBC_A_0xFF : (after (code [0xDE, 0xFF] { base with f := ⟨false, false, false, true⟩, a := 0x00 })).map (fun t => t.f.pack) = some 0xF0 := by decide
theorem test_AND_A_0x38 : (after (code [0xE6, 0x38] { base with a := 0x5A })).map (fun t => (t.a, t.f.pack)) = some (0x18, 0x20) := by decide
theorem test_XOR_A_A : (after (code [0xAF] { base with f := ⟨true, true, true, true⟩, a := 0xFF })).map (fun t => (t.a, t.f.pack)) = some (0x00, 0x80) := by decide
theorem test_OR_A_atHL : (after (code [0xB6] (placeAll [0x00] 0xC100 { base with a := 0x00, h := 0xC1, l := 0x00 }))).map (fun t => t.f.pack) = some 0x80 := by decide
theorem test_CP_A_atHL : (after (code [0xBE] (placeAll [0x40] 0xC100 { base with a := 0x3C, h := 0xC1, l := 0x00 }))).map (fun t => t.f.pack) = some 0x50 := by decide
theorem test_INC_A : (after (code [0x3C] { base with f := ⟨false, false, false, true⟩, a := 0xFF })).map (fun t => (t.a, t.f.pack)) = some (0x00, 0xB0) := by decide
theorem test_INC_atHL : (after (code [0x34] (placeAll [0x4F] 0xC100 { base with f := ⟨true, true, false, false⟩, h := 0xC1, l := 0x00 }))).map (fun t => (read8 t 0xC100, t.f.pack)) = some (0x50, 0x20) := by decide
theorem test_DEC_B : (after (code [0x05] { base with b := 0x00 })).map (fun t => (t.b, t.f.pack)) = some (0xFF, 0x60) := by decide
theorem test_DEC_atHL : (after (code [0x35] (placeAll [0x00] 0xC100 { base with h := 0xC1, l := 0x00 }))).map (fun t => (read8 t 0xC100, t.f.pack)) = some (0xFF, 0x60) := by decide
theorem test_DAA : (after (code [0x27] { base with f := ⟨false, true, true, false⟩, a := 0x4B })).map (fun t => (t.a, t.f.pack)) = some (0x45, 0x40) := by decide
theorem test_CPL : (after (code [0x2F] { base with f := ⟨true, false, false, false⟩, a := 0x35 })).map (fun t => (t.a, t.f.pack)) = some (0xCA, 0xE0) := by decide
theorem test_SCF : (after (code [0x37] { base with f := ⟨true, true, true, false⟩ })).map (fun t => t.f.pack) = some 0x90 := by decide
theorem test_CCF : (after (code [0x3F] { base with f := ⟨true, true, true, true⟩ })).map (fun t => t.f.pack) = some 0x80 := by decide

/-! Vectors of 95_test_vectors.md section 2.5. -/

theorem test_ADD_HL_HL : (after (code [0x29] { base with f := ⟨false, true, false, false⟩, h := 0x8A, l := 0x23 })).map (fun t => (t.hl, t.f.pack)) = some (0x1446, 0x30) := by decide
theorem test_ADD_SP_0xFF : (after (code [0xE8, 0xFF] { base with sp := 0x0001 })).map (fun t => (t.sp, t.f.pack)) = some (0x0000, 0x30) := by decide
theorem test_INC_DE : (after (code [0x13] { base with f := ⟨true, true, true, true⟩, d := 0x23, e := 0x5F })).map (fun t => t.e) = some 0x60 := by decide
theorem test_INC_HL : (after (code [0x23] { base with h := 0x00, l := 0xFF })).map (fun t => t.hl) = some 0x0100 := by decide
theorem test_DEC_BC : (after (code [0x0B] { base with b := 0x00, c := 0x00 })).map (fun t => t.bc) = some 0xFFFF := by decide
theorem test_DEC_SP : (after (code [0x3B] { base with sp := 0x0000 })).map (fun t => t.sp) = some 0xFFFF := by decide

/-! Vectors of 95_test_vectors.md section 2.6. -/

theorem test_RLCA : (after (code [0x07] { base with f := ⟨true, true, true, false⟩, a := 0x85 })).map (fun t => (t.a, t.f.pack)) = some (0x0B, 0x10) := by decide
theorem test_RRCA : (after (code [0x0F] { base with a := 0x3B })).map (fun t => (t.a, t.f.pack)) = some (0x9D, 0x10) := by decide
theorem test_RLA : (after (code [0x17] { base with f := ⟨false, false, false, true⟩, a := 0x95 })).map (fun t => (t.a, t.f.pack)) = some (0x2B, 0x10) := by decide
theorem test_RRA : (after (code [0x1F] { base with f := ⟨true, false, false, true⟩, a := 0x01 })).map (fun t => (t.a, t.f.pack)) = some (0x80, 0x10) := by decide
theorem test_RLC_B : (after (code [0xCB, 0x00] { base with b := 0x85 })).map (fun t => (t.b, t.f.pack)) = some (0x0B, 0x10) := by decide
theorem test_RLC_atHL : (after (code [0xCB, 0x06] (placeAll [0x00] 0xC100 { base with f := ⟨false, false, false, true⟩, h := 0xC1, l := 0x00 }))).map (fun t => (read8 t 0xC100, t.f.pack)) = some (0x00, 0x80) := by decide
theorem test_RRC_C : (after (code [0xCB, 0x09] { base with c := 0x01 })).map (fun t => (t.c, t.f.pack)) = some (0x80, 0x10) := by decide
theorem test_RL_atHL : (after (code [0xCB, 0x16] (placeAll [0x11] 0xC100 { base with f := ⟨false, false, false, true⟩, h := 0xC1, l := 0x00 }))).map (fun t => (read8 t 0xC100, t.f.pack)) = some (0x23, 0x00) := by decide
theorem test_RR_atHL : (after (code [0xCB, 0x1E] (placeAll [0x8A] 0xC100 { base with f := ⟨false, false, false, true⟩, h := 0xC1, l := 0x00 }))).map (fun t => (read8 t 0xC100, t.f.pack)) = some (0xC5, 0x00) := by decide
theorem test_SLA_atHL : (after (code [0xCB, 0x26] (placeAll [0xFF] 0xC100 { base with h := 0xC1, l := 0x00 }))).map (fun t => (read8 t 0xC100, t.f.pack)) = some (0xFE, 0x10) := by decide
theorem test_SRA_D : (after (code [0xCB, 0x2A] { base with f := ⟨false, false, false, true⟩, d := 0x8A })).map (fun t => (t.d, t.f.pack)) = some (0xC5, 0x00) := by decide
theorem test_SWAP_atHL : (after (code [0xCB, 0x36] (placeAll [0xF1] 0xC100 { base with f := ⟨true, true, true, true⟩, h := 0xC1, l := 0x00 }))).map (fun t => (read8 t 0xC100, t.f.pack)) = some (0x1F, 0x00) := by decide
theorem test_SRL_A : (after (code [0xCB, 0x3F] { base with a := 0x01 })).map (fun t => (t.a, t.f.pack)) = some (0x00, 0x90) := by decide
theorem test_BIT_4_L : (after (code [0xCB, 0x65] { base with f := ⟨false, false, false, true⟩, l := 0xEF })).map (fun t => t.f.pack) = some 0xB0 := by decide
theorem test_BIT_7 : (after (code [0xCB, 0x7E] { base with h := 0xFE, l := 0xB0 })).map (fun t => t.f.pack) = some 0x20 := by decide
theorem test_RES_1_L : (after (code [0xCB, 0x8D] { base with f := ⟨true, true, true, true⟩, l := 0x3B })).map (fun t => t.l) = some 0x39 := by decide
theorem test_RES_3_atHL : (after (code [0xCB, 0x9E] (placeAll [0xFF] 0xC100 { base with h := 0xC1, l := 0x00 }))).map (fun t => read8 t 0xC100) = some 0xF7 := by decide
theorem test_SET_7_L : (after (code [0xCB, 0xFD] { base with l := 0x3B })).map (fun t => t.l) = some 0xBB := by decide
theorem test_SET_0 : (after (code [0xCB, 0xC6] { base with h := 0x20, l := 0x00, cart := ⟨[(0x2000, 0x04)], 0x8000, .mbc1, 0⟩ })).map (fun t => t.romBank) = some 5 := by decide

/-! Vectors of 95_test_vectors.md section 2.7. -/

theorem test_JP_0x8000 : (after (code [0xC3, 0x00, 0x80] base)).map (fun t => (t.pc, t.cycles)) = some (0x8000, 16) := by decide
theorem test_JP_NZ_0x0150 : (after (code [0xC2, 0x50, 0x01] { base with f := ⟨true, false, false, false⟩ })).map (fun t => (t.pc, t.cycles)) = some (0xC003, 12) := by decide
theorem test_JP_C_0x0150 : (after (code [0xDA, 0x50, 0x01] { base with f := ⟨false, false, false, true⟩ })).map (fun t => (t.pc, t.cycles)) = some (0x0150, 16) := by decide
theorem test_JP_HL : (after (code [0xE9] { base with h := 0xC1, l := 0x00 })).map (fun t => (t.pc, t.cycles)) = some (0xC100, 4) := by decide
theorem test_JR_minus128 : (after (code [0x18, 0x80] base)).map (fun t => (t.pc, t.cycles)) = some (0xBF82, 12) := by decide
theorem test_JR_NZ_minus3 : (after (code [0x20, 0xFD] { base with f := ⟨true, false, false, false⟩ })).map (fun t => (t.pc, t.cycles)) = some (0xC002, 8) := by decide
theorem test_CALL_0x4000 : (after (code [0xCD, 0x00, 0x40] { base with sp := 0xFFFE })).map (fun t => (t.pc, t.sp)) = some (0x4000, 0xFFFC) := by decide
theorem test_CALL_Z_0x0200 : (after (code [0xCC, 0x00, 0x02] { base with f := ⟨true, false, false, false⟩, sp := 0xD000 })).map (fun t => (t.pc, t.sp)) = some (0x0200, 0xCFFE) := by decide
theorem test_RET : (after (code [0xC9] (placeAll [0x53, 0x01] 0xCFFE { base with sp := 0xCFFE }))).map (fun t => (t.pc, t.sp)) = some (0x0153, 0xD000) := by decide
theorem test_RET_Z : (after (code [0xC8] (placeAll [0x53, 0x01] 0xCFFE { base with f := ⟨true, false, false, false⟩, sp := 0xCFFE }))).map (fun t => (t.pc, t.sp)) = some (0x0153, 0xD000) := by decide
theorem test_RETI : (after (code [0xD9] (placeAll [0x04] 0xFF0F (placeAll [0x04] 0xFFFF (placeAll [0x53, 0x01] 0xCFFE { base with sp := 0xCFFE }))))).map (fun t => (t.pc, t.ifByte)) = some (0x0050, 0x00) := by decide
theorem test_RST_0x28 : (after (code [0xEF] { base with sp := 0xD000 })).map (fun t => (t.pc, t.sp)) = some (0x0028, 0xCFFE) := by decide

/-! Vectors of 96_system_vectors.md section 2.8, and the loader's scenario 1 (95_test_vectors.md section 1). -/

/-- A move of the environment that only raises IF bits. -/
def raises (irq : BitVec 5) : EnvMove := ⟨irq, none, false, []⟩

/-- The base state with IME, IE, IF and SP given. -/
def withRequest (ime : Bool) (ie ifb : Byte) (sp : Word) : State := { base with ime := ime, ie := ie, sp := sp }.setIf ifb

/-- S2, step 1: no dispatch between EI and the next instruction. -/
theorem test_S2_EI : (after (code [0xFB] { withRequest false 1 1 0xFFFE with pc := 0x0150 })).map (fun t => (t.pc, t.imePending)) = some (0x0151, true) := by decide
/-- S2, step 2: the NOP's Tick promotes and dispatches. -/
theorem test_S2_NOP : (after (code [0x00] { withRequest false 1 1 0xFFFE with pc := 0x0151, imePending := true })).map (fun t => (t.pc, read8 t 0xFFFC)) = some (0x0040, 0x52) := by decide
/-- S3, step 2: DI cancels the pending enable. -/
theorem test_S3_DI : (after (code [0xF3] { withRequest false 1 1 0xFFFE with imePending := true })).map (fun t => (t.ime, t.imePending)) = some (false, false) := by decide
/-- S4, step 2: the second EI's Tick promotes and dispatches. -/
theorem test_S4_EI : (after (code [0xFB] { withRequest false 4 4 0xD000 with imePending := true })).map (fun t => (t.pc, t.imePending)) = some (0x0050, false) := by decide
/-- S5: with IME 1 the EI's own Tick dispatches and does not promote. -/
theorem test_S5_EI : (after (code [0xFB] (withRequest true 1 1 0xD000))).map (fun t => (t.pc, t.imePending)) = some (0x0040, true) := by decide
/-- S7: the lowest-numbered request wins. -/
theorem test_S7_priority : (after (code [0x00] (withRequest true 0x1F 0x12 0xD000))).map (fun t => (t.pc, t.ifByte)) = some (0x0048, 0x10) := by decide
/-- S9: bits 7 to 5 of IF and IE raise nothing. -/
theorem test_S9_high_bits : (after (code [0x00] (withRequest true 0xE0 0xE1 0xFFFE))).map (fun t => (t.pc, t.cycles)) = some (0xC001, 4) := by decide
/-- S10: a store to IF raises a request, taken in the same step. -/
theorem test_S10_store_to_IF : (after (code [0xE0, 0x0F] { withRequest true 4 0 0xD000 with a := 4 })).map (fun t => (t.pc, t.cycles)) = some (0x0050, 32) := by decide
/-- S11: HALT with a request pending and IME 0 ends after one quantum. -/
theorem test_S11_HALT : (after (code [0x76] (withRequest false 1 1 0xFFFE))).map (fun t => (t.pc, t.cycles)) = some (0xC001, 4) := by decide
/-- S12: HALT wakes and dispatches in the third Tick. -/
theorem test_S12_HALT : (after (code [0x76] { withRequest true 1 0 0xFFFE with pc := 0x0150, env := [raises 0, raises 0, raises 1] })).map (fun t => (t.pc, t.cycles)) = some (0x0040, 32) := by decide
/-- S15, step 2: HALT after EI, dispatched with the return address after the HALT. -/
theorem test_S15_HALT : (after (code [0x76] { withRequest false 1 1 0xD000 with pc := 0xC001, imePending := true })).map (fun t => (t.pc, read8 t 0xCFFE)) = some (0x0040, 0x02) := by decide
/-- S17: STOP's own Tick dispatches. -/
theorem test_S17_STOP : (after (code [0x10, 0x00] (withRequest true 1 1 0xD000))).map (fun t => (t.pc, t.stopped)) = some (0x0040, true) := by decide
/-- S16, step 2: no step when stopped. -/
theorem test_S16_stopped : after { base with stopped := true } = none ∧ faultOf { base with stopped := true } = none := by decide
/-- S18: an invalid opcode faults, with its address and byte. -/
theorem test_S18_invalid : faultOf (code [0xD3] { base with a := 0x12 }) = some (.invalidOpcode 0xC000 0xD3) := by decide
/-- S19: a 2-byte instruction at 0xFFFF. -/
theorem test_S19_wrap : faultOf (code [0x3E] { base with pc := 0xFFFF }) = some (.fetchWrap 0xFFFF) := by decide
/-- S20: a 1-byte instruction at 0xFFFF; PC wraps. -/
theorem test_S20_wrap : (after (code [0x00] { base with pc := 0xFFFF })).map (fun t => t.pc) = some 0x0000 := by decide
/-- S21: a 3-byte instruction at 0xFFFE. -/
theorem test_S21_wrap : faultOf (code [0xC3, 0x00] { base with pc := 0xFFFE }) = some (.fetchWrap 0xFFFE) := by decide
/-- S22: the prefix at 0xFFFF. -/
theorem test_S22_wrap : faultOf (code [0xCB] { base with pc := 0xFFFF }) = some (.fetchWrap 0xFFFF) := by decide
/-- S24: RETI sets IME at once and its own Tick dispatches the next request. -/
theorem test_S24_RETI : (after (code [0xD9] (placeAll [0x53, 0x01] 0xCFFE { withRequest false 3 2 0xCFFE with pc := 0x0040 }))).map (fun t => (t.pc, t.sp)) = some (0x0048, 0xCFFE) := by decide
/-- Scenario 1: header bytes 0x13 and 0x03 give MBC3 and 32 KiB of external RAM. -/
theorem test_loader_scenario_1 : (loadCartridge [(0x147, 0x13), (0x149, 0x03)] 0x8000).map (fun c => (c.mbc, c.eramSize)) = some (.mbc3, 0x8000) := by decide
/-- 70_reset_and_hazards.md R427: an image shorter than 0x150 bytes builds nothing. -/
theorem test_loader_short : loadCartridge [] 0x14F = none ∧ (loadCartridge [] 0x150).isSome = true := by decide

/-! ### The decoder's table words, and the fetch after reset -/

/-- A word as the table numbers it: the first byte in the low bits, the CB rows by their two opcode bytes. -/
theorem test_decodeTableWord : decodeTableWord 8 0x76 = some .halt ∧ decodeTableWord 24 0x1234C3 = some (.jpA16 0x1234) ∧
    decodeTableWord 16 0xCB37 = some .swapA := by decide
/-- What is placed is what the next step fetches: from reset, LD A,0x5A and SWAP A. -/
theorem test_withFetchWord : (after (State.reset.withFetchWord 16 0x5A3E)).map (fun t => (t.a, t.pc)) = some (0x5A, 0x0102) ∧
    (after (State.reset.withFetchWord 16 0xCB37)).map (fun t => t.a) = some 0x10 := by decide

/-! ### WellFormed: its one check, on an ill-formed term and on others -/

theorem test_wellFormed_refuses_the_prefix_row : (Instr.prefixCb 0x37).wellFormed = false := by decide
theorem test_wellFormed_accepts : (Instr.swapA).wellFormed = true ∧ (Instr.ldAD8 0xFF).wellFormed = true ∧ (Instr.invalidD3).wellFormed = true := by decide

/-! ### Assembler texts, from the "Mnemonic" column of 96_system_vectors.md section 2.11; displacements by 30_encoding.md R114 -/

theorem test_asm_texts : ([([0x3E, 0x0F], "LD A,0x0F"), ([0x20, 0xFB], "JR NZ,0xFB"), ([0xC4, 0x34, 0x12], "CALL NZ,0x1234"), ([0xEF], "RST 0x28"),
    ([0xCB, 0x7E], "BIT 7,(HL)"), ([0xE0, 0x46], "LDH (0x46),A"), ([0xF8, 0xFE], "LD HL,SP+0xFE"), ([0x08, 0x00, 0xC1], "LD (0xC100),SP"),
    ([0xDD], "INVALID_DD")] : List (List Byte × String)).all
      (fun p => decide ((decode p.1).toOption.map (fun q => q.1.form.asm) = some p.2)) = true := by decide
theorem test_displacementTo : displacementTo 0x0102 0x0082 = some 0x80 ∧ displacementTo 0x0102 0x0181 = some 0x7F ∧
    displacementTo 0x0102 0x0182 = none ∧ displacementTo 0x0102 0x0081 = none := by decide

/-! ### Decoded records (96_system_vectors.md section 2.11) -/

theorem test_record_RET_C : (decodeRecord [0xD8] 0x0207).map (fun r => (r.targets, r.cyclesTaken)) = some ([.dynamic, .addr 0x0208], some 20) := by decide
theorem test_record_JR_at_bank_end : (decodeRecord [0x18, 0x7F] 0x7FFE).map (fun r => r.targets) = some [.addr 0x807F] := by decide
theorem test_record_DAA : (decodeRecord [0x27] 0x0154).map (fun r => (r.flags, r.flagsRead)) =
    some (⟨.written, .preserved, .cleared, .written⟩, [.n, .h, .c]) := by decide
theorem test_record_past_the_top : decodeRecord [0x3E, 0x00] 0xFFFF = none ∧ (decodeRecord [0x00] 0xFFFF).map (fun r => r.targets) = some [.addr 0x0000] := by decide

/-! ### IR operations (49_ir_lowering.md R348) -/

/-- `push16(PC)` comes before `PC <- value(target)`. -/
theorem test_ir_call_dynamic_sp : (irExec (.call (.dynamicReg .sp) none) ⟨{ base with sp := 0xD000 }, [], false, false⟩).toOption.map
    (fun s => (s.core.pc, s.core.sp, read16 s.core 0xCFFE, s.taken)) = some (0xCFFE, 0xCFFE, 0xC000, true) := by decide

/-! ### Witnesses: a state and operands that meet the hypotheses of each obligation, at the boundaries of its clauses -/

/-- A board with every MBC register in play: `mbc`, 256 KiB of ROM, 32 KiB of external RAM, some RAM written. -/
def board (mbc : MbcKind) : State :=
  { base with cart := ⟨[(0x147, 0x01), (0x4000, 0xB1)], 0x40000, mbc, 0x8000⟩, ramEnable := true, eram := [(0x10, 0x22)], wram := [(0x123, 0x42)] }

theorem witness_DecodeOfEncodeIsTheInstruction : (Instr.callA16 0xFFFF).wellFormed = true ∧ (Instr.set7AtHl).wellFormed = true := by decide

theorem witness_EncodeOfDecodeIsTheBytes : decode [0x3E, 0xFF, 0x00] = .ok (.ldAD8 0xFF, [0x00]) ∧ opLength 0xC3 ≤ [0xC3#8, 0x50, 0x01].length := by decide

theorem witness_InvalidBytesDecodeAsInvalid : (0xD3 : Byte) ∈ invalidBytes ∧ (0xFD : Byte) ∈ invalidBytes := by decide

theorem witness_EveryOtherByteIsAnInstruction : decode [0xCB, 0xFF] = .ok (.set7A, []) ∧ (0xCB : Byte) ∉ invalidBytes ∧
    decode [0x00] = .ok (.nop, []) ∧ (0x00 : Byte) ∉ invalidBytes := by decide

/-- A three-byte instruction whose last byte lies at 0xFFFF. -/
def jumpAtTop : State := code [0xC3, 0x34, 0x12] { base with pc := 0xFFFD }

theorem witness_StepRunsTheDecodedInstruction : jumpAtTop.stopped = false ∧ (Instr.jpA16 0x1234).wellFormed = true ∧
    jumpAtTop.pc.toNat + (Instr.jpA16 0x1234).form.length ≤ 0x10000 ∧
    ∀ k < (Instr.jpA16 0x1234).form.length, (encode (.jpA16 0x1234))[k]? = some (read8 jumpAtTop (jumpAtTop.pc + BitVec.ofNat 16 k)) := by decide

theorem witness_InvalidOpcodesFault : (Instr.invalidD3, (0xD3 : Byte)) ∈ invalidRows ∧ (Instr.invalidFD, (0xFD : Byte)) ∈ invalidRows := by decide

/-- An invalid opcode may stand at 0xFFFF; so may a NOP, which completes. -/
theorem witness_StepStopsExactlyWhere : faultOf (code [0xFD] { base with pc := 0xFFFF }) = some (.invalidOpcode 0xFFFF 0xFD) ∧
    faultOf (code [0x20] { base with pc := 0xFFFF }) = some (.fetchWrap 0xFFFF) ∧
    (code [0x00] { base with pc := 0xFFFF }).stopped = false ∧ read8 (code [0x00] { base with pc := 0xFFFF }) 0xFFFF ∉ invalidBytes ∧
    0xFFFF + opLength 0x00 ≤ 0x10000 ∧ ({ base with stopped := true } : State).stopped = true := by decide

/-- A board state that meets the invariant. -/
theorem board_inv : (code [0x77] { board .mbc1 with h := 0x20, l := 0x00, a := 0x07 }).Inv :=
  ⟨by decide, by decide, by decide, by decide, by decide⟩

theorem witness_StepKeepsInv : ∃ s t, State.Inv s ∧ step s = .next t ∧ (decide (t.romBank = 7)) = true := by
  obtain ⟨t, ht, hp⟩ := exists_of_afterHas (s := code [0x77] { board .mbc1 with h := 0x20, l := 0x00, a := 0x07 })
    (p := fun t => decide (t.romBank = 7)) (by decide)
  exact ⟨_, t, board_inv, ht, hp⟩

/-- Open parameters other than the named ones. -/
def otherParams : OpenParams :=
  { State.namedParams with cart := ⟨[(0x147, 0x13), (0x149, 0x03)], 0x8000, .mbc3, 0x8000⟩, ieReset := 0x1F, wram := [(0, 0xFF), (0x7FFF, 0x01)],
                           ioReset := [(0x01, 0x7E), (0x7F, 0xFF)], eram := [(0x7FFF, 0x33)] }

theorem witness_ResetMeetsInv : ParamsOk otherParams ∧ ParamsOk State.namedParams := by
  unfold ParamsOk; decide

theorem witness_ResetValues : ∃ o s, s = State.resetFrom o ∧ o.ioReset.wf = true ∧ o.ioReset ≠ [] := ⟨otherParams, _, rfl, by decide, by decide⟩

theorem witness_NoEnabledRequestOutlivesAStep : ∃ s t, step s = .next t ∧ t.ime = true :=
  ⟨_, exists_of_afterHas (s := code [0x00] (withRequest true 0xE0 0xE1 0xFFFE)) (p := fun t => t.ime) (by decide)⟩

/-- `exec` answers a next state. -/
def execs (i : Instr) (s : State) : Bool :=
  match exec i s with
  | .next _ => true
  | .fault _ => false
  | .refused _ => false

theorem exists_of_execs {i : Instr} {s : State} (h : execs i s = true) : ∃ t, exec i s = .next t := by
  unfold execs at h
  split at h
  · exact ⟨_, ‹_›⟩
  · cases h
  · cases h

/-- One instruction of each successor kind but `invalid`, which never answers a next state. -/
theorem witness_ControlGoesWhereTheRecordSays :
    ([(.nop, .fallthrough), (.stop 0xFF, .stop), (.halt, .halt), (.jpHl, .unconditionalJump), (.jrNzE8 0x80, .conditionalJump),
      (.callNzA16 0x1234, .call), (.retC, .ret), (.rst38, .rst)] : List (Instr × Successor)).all
      (fun p => decide (p.1.form.successor = p.2) && execs p.1 (withRequest false 1 1 0xFFFE)) = true := by decide

theorem witness_FlagsChangeAsTheRecordSays : (∃ t, exec .sbcAA base = .next t) ∧ ∃ t, exec .popAf base = .next t :=
  ⟨exists_of_execs (by decide), exists_of_execs (by decide)⟩

/-- Flags that agree on what the instruction reads and differ elsewhere. -/
theorem witness_FlagsNotReadDoNotMatter : AgreeOn (Instr.jpNzA16 0x1234).form.flagsRead base.f ⟨false, true, true, true⟩ ∧
    (base.f : Flags) ≠ ⟨false, true, true, true⟩ := by
  unfold AgreeOn; decide

theorem witness_ImeIsWrittenOnlyByDiEiReti :
    ([.di, .ei, .reti, .stop 0x00, .nop] : List Instr).all (fun i => decide (i ≠ .halt) && execs i base) = true := by decide

theorem witness_NoStepWritesTheCartridge : ∃ s t, step s = .next t ∧ (decide (t.romBank ≠ s.romBank)) = true :=
  ⟨_, exists_of_afterHas (s := code [0x77] { board .mbc1 with h := 0x20, l := 0x00, a := 0x07 })
    (p := fun t => decide (t.romBank ≠ 1)) (by decide)⟩

theorem witness_StepCountsItsCycles : (∃ s t, step s = .next t ∧ fetch s = .ok .nop ∧ decide (t.cycles = 24) = true) ∧ Instr.nop ≠ .halt := by
  obtain ⟨t, ht, hp⟩ := exists_of_afterHas (s := code [0x00] (withRequest true 0x1F 0x12 0xD000)) (p := fun t => decide (t.cycles = 24)) (by decide)
  exact ⟨⟨_, t, ht, by decide, hp⟩, by decide⟩

/-- Locations of plain RAM. -/
def isRam : Loc → Bool
  | .vram _ | .eram _ | .wram _ | .oam _ | .io _ | .hram _ | .ie => true
  | .rom _ | .joyp | .ppu _ | .unmapped => false

theorem plainRam_of {s : State} {addr : Word} (h : isRam (locate s addr) = true) : PlainRam s addr := by
  unfold PlainRam
  cases hl : locate s addr <;> simp_all [isRam]

/-- `Apart` as a Bool. -/
def apart : Loc → Loc → Bool
  | .ppu _, .ppu _ => false
  | .ppu k, .oam _ => k != 0x46
  | .joyp, .io k => k != 0
  | loc, loc' => decide (loc' ≠ loc)

theorem apart_of {loc loc' : Loc} (h : apart loc loc' = true) : Apart loc loc' := by
  cases loc <;> cases loc' <;> simp_all [apart, Apart]

theorem outside_of {s : State} {addr other : Word} (h : ¬ addr.toNat < 0x8000) (h' : apart (locate s addr) (locate s other) = true) :
    Outside s addr other := by
  unfold Outside
  rw [if_neg h]
  exact apart_of h'

/-- RAM at both ends of a range, its echo, addresses that lie outside a store, and elements that no address shows. -/
theorem witness_WriteThenRead : (board .mbc1).memoryOk = true ∧ PlainRam (board .mbc1) 0x8000 ∧ PlainRam (board .mbc1) 0xBFFF ∧
    PlainRam (board .mbc1) 0xFDFF ∧ PlainRam (board .mbc1) 0xFF0F ∧ PlainRam (board .mbc1) 0xFFFF ∧
    Outside (board .mbc1) 0xC000 0xC001 ∧ Outside (board .mbc1) 0x7FFF 0x3FFF ∧ Outside (board .mbc1) 0xFF46 0xFF0F ∧
    Untouched (board .mbc1) 0xA000 (.eram 0x2000) ∧ Untouched (board .mbc1) 0xD000 (.wram 0x2000) ∧ Untouched (board .mbc1) 0xFF46 (.io 0x46) ∧
    Untouched (board .mbc1) 0x7FFF (.vram 0) :=
  ⟨by decide, plainRam_of (by decide), plainRam_of (by decide), plainRam_of (by decide), plainRam_of (by decide), plainRam_of (by decide),
    outside_of (by decide) (by decide), by simp [Outside], outside_of (by decide) (by decide),
    fun _ => apart_of (by decide), fun _ => apart_of (by decide), fun _ => apart_of (by decide), fun h => absurd h (by decide)⟩

theorem witness_EchoForwards : 0xE000 ≤ (0xE000#16).toNat ∧ (0xE000#16).toNat < 0xFE00 ∧ 0xE000 ≤ (0xFDFF#16).toNat ∧ (0xFDFF#16).toNat < 0xFE00 := by decide

theorem witness_UnusableRangeReadsFFAndIgnoresWrites : 0xFEA0 ≤ (0xFEA0#16).toNat ∧ (0xFEA0#16).toNat ≤ 0xFEFF ∧
    0xFEA0 ≤ (0xFEFF#16).toNat ∧ (0xFEFF#16).toNat ≤ 0xFEFF := by decide

theorem witness_IeIsItsOwnByte : (0xFFFE : Word) ≠ 0xFFFF ∧ (0x0000 : Word) ≠ 0xFFFF := by decide

/-- Both ends of every region. -/
theorem witness_RamRegionsArePlainStorage : (0x8000 ≤ (0x8000#16).toNat ∧ (0x9FFF#16).toNat ≤ 0x9FFF) ∧
    (0xC000 ≤ (0xC000#16).toNat ∧ (0xCFFF#16).toNat ≤ 0xCFFF) ∧ (0xD000 ≤ (0xD000#16).toNat ∧ (0xDFFF#16).toNat ≤ 0xDFFF) ∧
    (0xFE00 ≤ (0xFE00#16).toNat ∧ (0xFE9F#16).toNat ≤ 0xFE9F) ∧ (0xFF01 ≤ (0xFF01#16).toNat ∧ (0xFF3F#16).toNat ≤ 0xFF3F) ∧
    (0xFF4C ≤ (0xFF4C#16).toNat ∧ (0xFF7F#16).toNat ≤ 0xFF7F) ∧ (0xFF80 ≤ (0xFF80#16).toNat ∧ (0xFFFE#16).toNat ≤ 0xFFFE) := by decide

/-- The three windows at their ends; external RAM enabled and inside its size, disabled, and on a clock register of MBC3. -/
theorem witness_RomAndExternalRamWindows : (0x3FFF#16).toNat < 0x4000 ∧ 0x4000 ≤ (0x4000#16).toNat ∧ (0x7FFF#16).toNat < 0x8000 ∧
    0xA000 ≤ (0xA000#16).toNat ∧ (0xBFFF#16).toNat < 0xC000 ∧
    ((board .mbc1).ramEnable = true ∧ (board .mbc1).eramBank.toNat * 0x2000 + (0xBFFF - 0xA000) < (board .mbc1).cart.eramSize ∧
      ¬ ((board .mbc1).cart.mbc = .mbc3 ∧ 8 ≤ (board .mbc1).eramBank.toNat)) ∧
    base.ramEnable = false ∧ (board .mbc3).cart.mbc = .mbc3 := by decide

theorem witness_BankRegisterWritesStoreNothing : (0x7FFF#16).toNat < 0x8000 ∧ (0x0000#16).toNat < 0x8000 := by decide

/-- Each range of the bank-register writes at its two ends, each MBC kind, both banking modes. -/
theorem witness_BankRegisterRules : (0x1FFF#16).toNat < 0x2000 ∧ (0x2000 ≤ (0x2000#16).toNat ∧ (0x3FFF#16).toNat < 0x4000) ∧
    (0x4000 ≤ (0x4000#16).toNat ∧ (0x5FFF#16).toNat < 0x6000) ∧ (0x6000 ≤ (0x6000#16).toNat ∧ (0x7FFF#16).toNat < 0x8000) ∧
    base.cart.mbc = .none ∧ (board .mbc1).cart.mbc = .mbc1 ∧ (board .mbc2).cart.mbc = .mbc2 ∧ (board .mbc3).cart.mbc = .mbc3 ∧
    (board .mbc5).cart.mbc = .mbc5 ∧ (board .mbc1).bankingMode = false ∧ ({ board .mbc1 with bankingMode := true } : State).bankingMode = true := by decide

theorem witness_OamDmaCopiesAPage : base.memoryOk = true ∧ (159 < 160) ∧ ¬ (0xFE00 ≤ (0xFEA0#16).toNat ∧ (0xFEA0#16).toNat ≤ 0xFE9F) ∧
    ¬ (0xFF40 ≤ (0xFEA0#16).toNat ∧ (0xFEA0#16).toNat ≤ 0xFF4B) := by decide

theorem witness_PushThenPopRestores : base.memoryOk = true ∧ PlainRam base (base.sp - 2) ∧ PlainRam base (base.sp - 1) :=
  ⟨by decide, plainRam_of (by decide), plainRam_of (by decide)⟩

/-- A request taken, its stack in high RAM, and an address outside the stack; and a state where none is taken. -/
theorem witness_InterruptCheckDispatchesOne :
    (withRequest true 0x1F 0x10 0xFFFE).memoryOk = true ∧ (withRequest true 0x1F 0x10 0xFFFE).ime = true ∧ (withRequest true 0x1F 0x10 0xFFFE).pending ≠ 0 ∧
    PlainRam (withRequest true 0x1F 0x10 0xFFFE) 0xFFFC ∧ PlainRam (withRequest true 0x1F 0x10 0xFFFE) 0xFFFD ∧
    Outside (withRequest true 0x1F 0x10 0xFFFE) 0xFFFC 0xC000 ∧ Outside (withRequest true 0x1F 0x10 0xFFFE) 0xFFFD 0xC000 ∧
    ¬ (base.ime = true ∧ base.pending ≠ 0) :=
  ⟨by decide, by decide, by decide, plainRam_of (by decide), plainRam_of (by decide), outside_of (by decide) (by decide),
    outside_of (by decide) (by decide), by decide⟩

theorem witness_PriorityIsTheLowestBit : (0x10 : Byte) &&& 0x1F ≠ 0 ∧ (0x12 : Byte) &&& 0x1F ≠ 0 := by decide

theorem witness_TickPromotesOnlyACapturedPending : ({ base with imePending := true } : State).imePending = true ∧
    ¬ (false = true ∧ ({ base with imePending := true } : State).imePending = true) := by decide

/-- EI with no enable pending; a NOP with one pending, with a request and without. -/
theorem witness_EiTakesEffectAfterTheNextInstruction :
    (code [0xFB] base).stopped = false ∧ (code [0xFB] base).ime = false ∧ (code [0xFB] base).imePending = false ∧ read8 (code [0xFB] base) 0xC000 = 0xFB ∧
    read8 (code [0x00] { withRequest false 1 1 0xD000 with imePending := true }) 0xC000 = 0x00 ∧
    (envStep (code [0x00] { withRequest false 1 1 0xD000 with imePending := true })).pending ≠ 0 ∧
    (envStep (code [0x00] { withRequest false 0 1 0xD000 with imePending := true })).pending = 0 := by decide

/-- A move that changes everything a move may, and tries what it may not. -/
def bigMove : EnvMove := ⟨0x15, some (0xFE, 0xF7), true, [(0x00, 0x11), (0x04, 0x99), (0x0F, 0x00), (0x90, 0x77)]⟩

theorem witness_EnvironmentMoveIsConfined : ∃ s t, State.memoryOk s = true ∧ t = envStep s ∧ s.ifByte.getLsbD 0 = true ∧ t.stopped = true ∧
    Memory.read t.io 0x04 = 0x99 ∧ t.ifByte = 0xF5 := ⟨{ base with env := [bigMove] }, _, by decide, rfl, by decide, by decide, by decide, by decide⟩

theorem witness_HaltFuseBoundsTheWait : base.ie &&& 0x1F = 0 ∧ 1 ≤ base.params.haltTickQuantum ∧ base.params.haltTickQuantum ∣ 70224 ∧
    1 ≤ (1 : Nat) ∧ ¬ (7 * 7 ∣ 70224) := by decide

/-- A request that arrives in HALT's first Tick, and one in the third as in the example of R322; with IME 0 and with IME 1. -/
theorem witness_HaltWakesOnAPendingRequest : ∀ ime,
    (let s := { withRequest ime 4 0 0xD000 with env := [raises 4] };
      1 ≤ s.params.haltTickQuantum ∧ 0 * s.params.haltTickQuantum < 70224 ∧ (waiting s 1).pending ≠ 0 ∧ (waiting s 1).ime = ime) ∧
    (let s := { withRequest ime 1 0 0xFFFE with pc := 0x0150, env := [raises 0, raises 0, raises 1] };
      2 * s.params.haltTickQuantum < 70224 ∧ (∀ j ≤ 2, 1 ≤ j → (waiting s j).pending = 0) ∧ (waiting s 3).pending ≠ 0 ∧
      (waiting s 3).ime = ime) := by decide

theorem witness_RegisterLoads : (Instr.ldHAtHl, R8.h, R8.atHl) ∈ loadRows ∧ (Instr.ldAD8, R8.a) ∈ loadImmRows := by simp [loadRows, loadImmRows]

theorem witness_ByteStores : (board .mbc1).memoryOk = true ∧ base.memoryOk = true ∧ (Instr.ldAtHlL, R8.l) ∈ storeRows := by decide

theorem witness_WordLoads : (Instr.ldSpD16, Rp.sp) ∈ loadPairRows := by simp [loadPairRows]

theorem witness_StoreOfSp : (board .mbc5).memoryOk = true ∧ PlainRam (board .mbc5) 0xFFFF ∧ PlainRam (board .mbc5) 0xFFFE :=
  ⟨by decide, plainRam_of (by decide), plainRam_of (by decide)⟩

theorem witness_PushesAndPops : (Instr.pushAf, Rp2.af) ∈ pushRows ∧ (Instr.popAf, Rp2.af) ∈ popRows ∧ base.memoryOk = true := by decide

theorem witness_AddsToA : (Instr.addAAtHl, R8.atHl) ∈ addRows := by decide

theorem witness_CarryAndBorrowArithmetic : (Instr.adcAA, R8.a) ∈ adcRows ∧ (Instr.subAB, R8.b) ∈ subRows ∧ (Instr.sbcAAtHl, R8.atHl) ∈ sbcRows ∧
    (Instr.cpAL, R8.l) ∈ cpRows := by decide

theorem witness_LogicOperations : (Instr.andAA, R8.a) ∈ andRows ∧ (Instr.xorAA, R8.a) ∈ xorRows ∧ (Instr.orAAtHl, R8.atHl) ∈ orRows := by decide

theorem witness_IncrementsAndDecrements : (Instr.incAtHl, R8.atHl) ∈ incRows ∧ (Instr.decA, R8.a) ∈ decRows ∧ base.memoryOk = true := by decide

theorem witness_WordArithmetic : (Instr.addHlSp, Rp.sp) ∈ addHlRows ∧ (Instr.incSp, Rp.sp) ∈ incPairRows ∧ (Instr.decBc, Rp.bc) ∈ decPairRows := by decide

theorem witness_AccumulatorRotates : (Instr.rra, RotOp.rr) ∈ rotARows := by decide

theorem witness_RotatesAndShifts : (Instr.swapAtHl, RotOp.swap, R8.atHl) ∈ rotRows ∧ (Instr.rlcB, RotOp.rlc, R8.b) ∈ rotRows ∧ base.memoryOk = true := by decide

theorem witness_BitTests : (Instr.bit7AtHl, (7 : Fin 8), R8.atHl) ∈ bitRows ∧ (Instr.bit0B, (0 : Fin 8), R8.b) ∈ bitRows := by decide

theorem witness_BitResetsAndSets : (Instr.res7A, (7 : Fin 8), R8.a) ∈ resRows ∧ (Instr.set0AtHl, (0 : Fin 8), R8.atHl) ∈ setRows ∧ base.memoryOk = true := by decide

theorem witness_Jumps : (Instr.jpNzA16, Cond.nz) ∈ jumpIfRows ∧ (Instr.jrCE8, Cond.c) ∈ jumpRelIfRows ∧ condHolds base.f .nz = true ∧
    condHolds base.f .c = false := by simp [jumpIfRows, jumpRelIfRows, condHolds, base]

theorem witness_CallsAndRestarts : (Instr.callZA16, Cond.z) ∈ callIfRows ∧ (Instr.rst38, (0x38 : Word)) ∈ rstRows ∧ base.memoryOk = true :=
  ⟨by simp [callIfRows], by decide, by decide⟩

theorem witness_ReturnsPopPc : (Instr.retNc, Cond.nc) ∈ returnIfRows ∧ condHolds base.f .nc = true ∧ condHolds base.f .z = false := by decide

end Sys2Proof.Tests
end

section
/-! What the decoder reads begins with the byte it was given, and only the eleven invalid bytes begin an instruction of class INVALID
(30_encoding.md R108, R116). -/

namespace Sys2Proof
open Sys2Proof.Machine Sys2Proof.Stmt

section DecodedBytes
variable {i : Instr} {op : Byte} {tail rest : List Byte} {f : Form}

/-- The decoder splits the bytes into the encoding of what it reads and the bytes after it. -/
theorem encode_append_of_decode (h : decode (op :: tail) = .ok (i, rest)) : encode i ++ rest = op :: tail := by
  by_cases hcb : op = 0xCB
  · subst hcb
    cases tail with
    | nil => cases h
    | cons b2 tail =>
      obtain ⟨rfl, rfl⟩ : decodeCb b2 = i ∧ tail = rest := by simpa [decode] using h
      obtain ⟨-, -, henc⟩ := decodeCb_entry b2
      rw [henc]; rfl
  · simp only [decode, if_neg hcb] at h
    have henc (n : Byte) (w : Word) := (decodeBase_entry n w op hcb).encode
    rcases opLength_cases op with hl | hl | hl
    · obtain ⟨rfl, rfl⟩ : decodeBase op 0 0 = i ∧ tail = rest := by simpa [hl] using h
      rw [henc, hl]; rfl
    · obtain _ | ⟨n, tail⟩ := tail
      · simp [hl] at h
      · obtain ⟨rfl, rfl⟩ : decodeBase op n 0 = i ∧ tail = rest := by simpa [hl] using h
        rw [henc, hl]; rfl
    · obtain _ | ⟨lo, _ | ⟨hi, tail⟩⟩ := tail
      · simp [hl] at h
      · simp [hl] at h
      · obtain ⟨rfl, rfl⟩ : decodeBase op 0 (pairWord hi lo) = i ∧ tail = rest := by simpa [hl] using h
        rw [henc, hl, loByte_pairWord, hiByte_pairWord]; rfl

/-- The class INVALID is that of the one form without a next state. -/
theorem cls_ne_invalid_of_formRuns (h : formRuns f = true) : f.cls ≠ .INVALID := by
  cases f with
  | invalid op => simp [formRuns] at h
  | ld8 dst src => cases dst <;> cases src <;> exact Cls.noConfusion
  | ldImm8 dst d8 => cases dst <;> exact Cls.noConfusion
  | ldAInd p => cases p <;> exact Cls.noConfusion
  | ldIndA p => cases p <;> exact Cls.noConfusion
  | alu op x => cases op <;> exact Cls.noConfusion
  | aluImm op d8 => cases op <;> exact Cls.noConfusion
  | rotA op => cases op <;> exact Cls.noConfusion
  | cb op =>
    rcases op with ⟨op, x⟩ | _ | _ | _
    · cases op <;> exact Cls.noConfusion
    all_goals exact Cls.noConfusion
  | _ => exact Cls.noConfusion

/-- An instruction of the invalid form carries one of the eleven bytes. -/
theorem mem_invalidBytes_of_form (h : i.form = .invalid op) : op ∈ invalidBytes := by
  cases i <;> cases h <;> decide

/-- An instruction read from a byte that is not one of the eleven has a form with a next state. -/
theorem formRuns_of_decode (h : decode (op :: tail) = .ok (i, rest)) (hop : op ∉ invalidBytes) : formRuns i.form = true := by
  have henc : encodeForm i.form ++ rest = op :: tail := encode_append_of_decode h
  cases hf : i.form with
  | invalid op' =>
    obtain ⟨rfl, -⟩ : op' = op ∧ rest = tail := by simpa [hf, encodeForm] using henc
    exact absurd (mem_invalidBytes_of_form hf) hop
  | _ => rfl

end DecodedBytes

/-- Settles O5: the decoded form is not the invalid one, for that would encode to one of the eleven bytes; every other form has a next
state. -/
theorem everyOtherByteIsAnInstruction : Obligations.EveryOtherByteIsAnInstruction := by
  unfold Obligations.EveryOtherByteIsAnInstruction
  intro op tail rest i h hop
  have hruns := formRuns_of_decode h hop
  refine ⟨cls_ne_invalid_of_formRuns hruns, fun s => ?_⟩
  rw [exec_eq_formMeaning]
  exact formMeaning_next i.form hruns s

end Sys2Proof
end

section
/-! Where an address leads and what it reads as, for the windows of 20_memory.md section 2 that are not plain RAM, and a word stored
over two bytes of RAM (R72, R73). -/

namespace Sys2Proof.Machine
open Sys2Proof.Stmt

section MemoryMap
variable {s : State} {addr : Word} {v : Byte} {loc loc' : Loc}

theorem write8_of_low (h : addr.toNat < 0x8000) : write8 s addr v = bankWrite s addr.toNat v := if_pos h

theorem write8_of_high (h : 0x8000 ≤ addr.toNat) : write8 s addr v = writeLoc s (locate s addr) v := if_neg (by omega)

/-! ### The image, the external RAM window, the unusable range and IE -/

/-- The element of the image that an address below 0x8000 selects (R52, R53). -/
def romElement (s : State) (addr : Word) : Nat :=
  if addr.toNat < 0x4000 then addr.toNat else s.romBank.toNat * 0x4000 + (addr.toNat - 0x4000)

theorem romElement_of_fixed (h : addr.toNat < 0x4000) : romElement s addr = addr.toNat := if_pos h

theorem romElement_of_banked (h : 0x4000 ≤ addr.toNat) :
    romElement s addr = s.romBank.toNat * 0x4000 + (addr.toNat - 0x4000) := if_neg (by omega)

theorem locate_of_low (h : addr.toNat < 0x8000) : locate s addr = romLoc s (romElement s addr) := by
  simp only [locate, romElement]
  split <;> rfl

theorem read8_of_low (h : addr.toNat < 0x8000) :
    read8 s addr = if romElement s addr < s.cart.romSize then Memory.read s.cart.rom (romElement s addr) else 0xFF := by
  rw [read8, locate_of_low h, romLoc]
  split <;> rfl

theorem locate_of_eramWindow (h : 0xA000 ≤ addr.toNat) (h' : addr.toNat < 0xC000) :
    locate s addr = eramLoc s addr.toNat := by
  simp only [locate]
  rw [if_neg (by omega), if_neg (by omega), if_neg (by omega), if_pos h']

theorem eramLoc_eq (s : State) (n : Nat) : eramLoc s n =
    if s.ramEnable = true ∧ s.eramBank.toNat * 0x2000 + (n - 0xA000) < s.cart.eramSize ∧
      ¬ (s.cart.mbc = .mbc3 ∧ 8 ≤ s.eramBank.toNat)
    then .eram (s.eramBank.toNat * 0x2000 + (n - 0xA000)) else .unmapped := by
  simp [eramLoc, rtcSelected, and_assoc, imp_iff_not_or]

theorem locate_of_unusable (h : 0xFEA0 ≤ addr.toNat) (h' : addr.toNat ≤ 0xFEFF) : locate s addr = .unmapped := by
  simp only [locate]
  iterate 7 rw [if_neg (by omega)]
  rw [if_pos (by omega)]

theorem locate_ne_ie (h : addr.toNat < 0xFFFF) : locate s addr ≠ .ie := by
  simp only [locate, romLoc, eramLoc, wramLoc, ioLoc, if_pos h]
  generalize addr.toNat = n
  repeat' split
  all_goals exact Loc.noConfusion

theorem locate_eq_ie_iff : locate s addr = .ie ↔ addr = 0xFFFF := by
  constructor
  · intro h
    have hge : ¬ addr.toNat < 0xFFFF := fun hlt => locate_ne_ie hlt h
    bv_omega
  · rintro rfl; rfl

theorem writeLoc_ie_of_ne (h : loc ≠ .ie) : (writeLoc s loc v).ie = s.ie := by
  cases loc with
  | ie => exact absurd rfl h
  | ppu k =>
    obtain ⟨o, ho⟩ := ppuWrite_only s v k
    simp only [writeLoc, ho]
  | _ => rfl

/-- Only a write to 0xFFFF reaches IE (R65). -/
theorem write8_ie_of_ne (h : addr ≠ 0xFFFF) : (write8 s addr v).ie = s.ie := by
  unfold write8
  split
  · obtain ⟨rb, eb, re, bm, hb⟩ := bankWrite_only s v addr.toNat
    rw [hb]
  · exact writeLoc_ie_of_ne (mt locate_eq_ie_iff.1 h)

theorem write8_ie_address (s : State) (v : Byte) : write8 s 0xFFFF v = { s with ie := v } := rfl

/-- Only a read of 0xFFFF sees IE (R65). -/
theorem read8_with_ie_of_ne (h : addr ≠ 0xFFFF) : read8 { s with ie := v } addr = read8 s addr := by
  have hmap : locate { s with ie := v } addr = locate s addr := rfl
  rw [read8, hmap, read8]
  have hne : locate s addr ≠ .ie := mt locate_eq_ie_iff.1 h
  cases hloc : locate s addr with
  | ie => exact absurd hloc hne
  | _ => rfl

/-! ### Two neighbouring bytes of RAM -/

/-- The location may be where the address `n` leads as far as parity goes: an element has the parity of `n`; IE lies at an odd address
and the joypad register at an even one. -/
def Loc.parityFits (n : Nat) : Loc → Prop
  | .rom k | .vram k | .eram k | .wram k | .oam k | .io k | .ppu k | .hram k => k % 2 = n % 2
  | .ie => n % 2 = 1
  | .joyp => n % 2 = 0
  | .unmapped => True

theorem romLoc_parityFits {n k : Nat} (h : k % 2 = n % 2) : (romLoc s k).parityFits n := by
  unfold romLoc
  split
  · exact h
  · trivial

theorem eramLoc_parityFits {n : Nat} (h : 0xA000 ≤ n) : (eramLoc s n).parityFits n := by
  rw [eramLoc_eq]
  split
  · simp only [Loc.parityFits]; omega
  · trivial

theorem wramLoc_parityFits {n k : Nat} (h : 0xC000 ≤ k) (hk : k % 2 = n % 2) : (wramLoc s k).parityFits n := by
  unfold wramLoc
  split <;> simp only [Loc.parityFits] <;> omega

theorem ioLoc_parityFits {n k : Nat} (hk : k % 2 = n % 2) : (ioLoc k).parityFits n := by
  unfold ioLoc
  split
  · simp only [Loc.parityFits]; omega
  · split <;> exact hk

/-- Every window and every bank begins at an even address, so an address and its element have the same parity. -/
theorem locate_parityFits (s : State) (addr : Word) : (locate s addr).parityFits addr.toNat := by
  have hlt := addr.isLt
  simp only [locate]
  split
  · exact romLoc_parityFits rfl
  split
  · exact romLoc_parityFits (by omega)
  split
  · simp only [Loc.parityFits]; omega
  split
  · exact eramLoc_parityFits (by omega)
  split
  · exact wramLoc_parityFits (by omega) rfl
  split
  · generalize hk : addr.toNat - 0x2000 = k
    exact wramLoc_parityFits (by omega) (by omega)
  split
  · simp only [Loc.parityFits]; omega
  split
  · trivial
  split
  · generalize hk : addr.toNat - 0xFF00 = k
    exact ioLoc_parityFits (by omega)
  split <;> simp only [Loc.parityFits] <;> omega

/-- Neighbouring addresses never share a location. -/
theorem locate_add_one_ne (h : locate s addr ≠ .unmapped) : locate s (addr + 1) ≠ locate s addr := by
  intro heq
  have hlow := locate_parityFits s addr
  have hhigh := locate_parityFits s (addr + 1)
  have hpar : (addr + 1).toNat % 2 ≠ addr.toNat % 2 := by bv_omega
  rw [heq] at hhigh
  cases hloc : locate s addr with
  | unmapped => exact h hloc
  | _ =>
    simp only [hloc, Loc.parityFits] at hlow hhigh
    omega

theorem not_disturbs_of_stores (h : loc.stores = true) : ¬ loc.disturbs loc' := by
  cases loc <;> simp_all [Loc.stores, Loc.disturbs]

theorem plainRam_iff_stores : PlainRam s addr ↔ (locate s addr).stores = true := by
  unfold PlainRam
  cases locate s addr <;> simp [Loc.stores]

/-- A word written over two bytes of RAM reads back: the high byte lies beside the low one, not on it. -/
theorem read16_write16 {word : Word} (hm : s.memoryOk = true) (hlo : PlainRam s addr) (hhi : PlainRam s (addr + 1)) :
    read16 (write16 s addr word) addr = word := by
  rw [plainRam_iff_stores] at hlo hhi
  have hlow : 0x8000 ≤ addr.toNat := high_of_stores hlo
  have hhigh : 0x8000 ≤ (addr + 1).toNat := high_of_stores hhi
  have hmapped : locate s addr ≠ .unmapped := fun h => by simp [h, Loc.stores] at hlo
  have hm' : (write8 s addr (loByte word)).memoryOk = true := write8_memoryOk hm _ _
  have hmap : ∀ other, locate (write8 s addr (loByte word)) other = locate s other :=
    fun other => locate_of_sameMap other (write8_sameMap s _ hlow)
  have hread : read8 (write16 s addr word) addr = loByte word := by
    rw [write16, read8_write8_other hm' hhigh, read8_write8_same hm hlow hlo]
    · rw [hmap, hmap]; exact (locate_add_one_ne hmapped).symm
    · rw [hmap]; exact not_disturbs_of_stores hhi
  have hread' : read8 (write16 s addr word) (addr + 1) = hiByte word := by
    rw [write16, read8_write8_same hm' hhigh]
    rw [hmap]; exact hhi
  rw [read16, hread, hread', pairWord_hi_lo]

end MemoryMap

/-- Settles O22: the range is mapped to nothing. -/
theorem unusableRangeReadsFFAndIgnoresWrites : Obligations.UnusableRangeReadsFFAndIgnoresWrites := by
  unfold Obligations.UnusableRangeReadsFFAndIgnoresWrites
  intro s addr v h h'
  have hloc : locate s addr = .unmapped := locate_of_unusable h h'
  rw [read8, write8_of_high (by omega), hloc]
  exact ⟨rfl, rfl⟩

/-- Settles O23: 0xFFFF is the one address that leads to IE. -/
theorem ieIsItsOwnByte : Obligations.IeIsItsOwnByte := by
  unfold Obligations.IeIsItsOwnByte
  intro s v
  refine ⟨rfl, write8_ie_address s v, fun addr hne => ⟨?_, fun _ => write8_ie_of_ne hne⟩⟩
  rw [write8_ie_address, read8_with_ie_of_ne hne]

/-- Settles O25: each window leads where its routing function says, and that is the element or nothing. -/
theorem romAndExternalRamWindows : Obligations.RomAndExternalRamWindows := by
  unfold Obligations.RomAndExternalRamWindows
  intro s addr v
  refine ⟨fun h => ?_, fun h h' => ?_, fun h h' => ?_⟩
  · rw [read8_of_low (by omega), romElement_of_fixed h]
  · rw [read8_of_low h', romElement_of_banked h]
  · rw [read8, write8_of_high (by omega), locate_of_eramWindow h h', eramLoc_eq]
    split <;> exact ⟨rfl, rfl⟩

/-- Settles O27: a bank-register write leaves the image alone, and the address still leads into it. -/
theorem bankRegisterWritesStoreNothing : Obligations.BankRegisterWritesStoreNothing := by
  unfold Obligations.BankRegisterWritesStoreNothing
  rintro s addr v h t rfl
  refine ⟨?_, by rw [write8_cart], by rw [read8_of_low h, write8_cart]; rfl⟩
  obtain ⟨rb, eb, re, bm, hb⟩ := bankWrite_only s v addr.toNat
  rw [write8_of_low h, hb]

/-- Settles O30: the push is a `write16` at the lowered SP and the pop a `read16` there. -/
theorem pushThenPopRestores : Obligations.PushThenPopRestores := by
  unfold Obligations.PushThenPopRestores
  intro s v
  refine ⟨⟨pairWord_toNat _ _, rfl⟩, fun hm hlo hhi => ⟨?_, ?_⟩⟩
  · have hnext : s.sp - 2 + 1 = s.sp - 1 := by bv_omega
    rw [popWord, push16_sp]
    exact read16_write16 (s := { s with sp := s.sp - 2 }) hm hlo (hnext ▸ hhi)
  · rw [popState_sp, push16_sp, BitVec.sub_add_cancel]

end Sys2Proof.Machine
end

section
/-! The eleven invalid bytes: each is a whole instruction of the invalid form, and that form is the trap (30_encoding.md R108,
60_exceptions.md R380). -/

namespace Sys2Proof
open Sys2Proof.Machine Sys2Proof.Stmt

section InvalidBytes
variable {i : Instr} {op : Byte}

/-- A byte that is a whole instruction is read alone, whatever follows it (R93, R116). -/
theorem decode_cons_of_opLength_one (h : opLength op = 1) (rest : List Byte) :
    decode (op :: rest) = .ok (decodeBase op 0 0, rest) := by
  have hcb : op ≠ 0xCB := by rintro rfl; exact absurd h (by decide)
  simp only [decode, if_neg hcb, h]; rfl

/-- No table of longer opcodes lists an invalid byte (R93). -/
theorem opLength_of_mem_invalidBytes : ∀ op ∈ invalidBytes, opLength op = 1 := by decide

/-- The base map has an instruction of the invalid form at each of the eleven bytes, and it carries the byte (R106, R108). -/
theorem decodeBase_form_of_mem_invalidBytes : ∀ op ∈ invalidBytes, (decodeBase op 0 0).form = .invalid op := by decide

/-- An instruction of the invalid form is the trap (R329, R380). -/
theorem exec_of_form_invalid (h : i.form = .invalid op) (s : State) : exec i s = .fault (.invalidOpcode s.pc op) := by
  rw [exec_eq_formMeaning, h]; rfl

end InvalidBytes

/-- Settles O4: each byte is read alone as an instruction of the invalid form, whose record and meaning are fixed by the form. -/
theorem invalidBytesDecodeAsInvalid : Obligations.InvalidBytesDecodeAsInvalid := by
  unfold Obligations.InvalidBytesDecodeAsInvalid
  intro op hop rest
  have hform : (decodeBase op 0 0).form = .invalid op := decodeBase_form_of_mem_invalidBytes op hop
  refine ⟨_, decode_cons_of_opLength_one (opLength_of_mem_invalidBytes op hop) rest, ?_⟩
  have htrap := exec_of_form_invalid hform
  rw [hform]
  exact ⟨rfl, rfl, rfl, rfl, fun _ => rfl, htrap⟩

end Sys2Proof
end

section
/-! The 8-bit addition, the BIT tests and the laws of the ALU primitives: each primitive in plain arithmetic once, then the
instructions and the laws from it (40_alu_primitives.md R131, R149-R152, R156, R157, R161). -/

namespace Sys2Proof.Machine
open Sys2Proof.Stmt

section AluPrimitives
variable {op : AluOp} {i : Instr} {n : Nat} {x : R8} {k : Fin 8}

/-! ### ADD: a primitive's answer written to A -/

/-- `add8` in plain arithmetic (R131). -/
theorem add8_binaryResult (a v : Byte) (c : Bool) : BinaryResult .add a v c (add8 a v).1 (add8 a v).2 :=
  ⟨BitVec.toNat_add a v, rfl⟩

/-- An instruction that writes a primitive's answer to A and the flags is the 8-bit operation the primitive computes. -/
theorem operates_of_exec_eq_setAcc {value : State → Byte} {answer : State → Byte × Flags}
    (hexec : ∀ s, exec i s = setAcc (answer s) n s)
    (hanswer : ∀ s, BinaryResult op s.a (value s) s.f.c (answer s).1 (answer s).2) :
    Operates op i (BitVec.ofNat 16 n) value :=
  fun s => ⟨_, hexec s, hanswer s, rfl, read8_of_withCpu s rfl⟩

theorem operates_add_of_form (h : i.form = .alu .add x) : Operates .add i 1 fun s => readR8 s x := by
  refine operates_of_exec_eq_setAcc (answer := fun s => add8 s.a (readR8 s x)) (fun s => ?_) (fun s => add8_binaryResult _ _ _)
  rw [exec_eq_formMeaning, h]; rfl

theorem operates_addAD8 (d8 : Byte) : Operates .add (.addAD8 d8) 2 fun _ => d8 :=
  operates_of_exec_eq_setAcc (answer := fun s => add8 s.a d8) (fun _ => rfl) (fun _ => add8_binaryResult _ _ _)

/-- The rows of the table are the ADD instructions of their operands (R230). -/
theorem form_of_mem_addRows : ∀ row ∈ addRows, row.1.form = .alu .add row.2 := by decide

/-! ### BIT: a bit as a number -/

theorem bitNat_getLsbD (v : Byte) (j : Nat) : bitNat (v.getLsbD j) = v.toNat / 2 ^ j % 2 := by
  rw [← Nat.toNat_testBit, BitVec.testBit_toNat]
  cases v.getLsbD j <;> rfl

theorem not_eq_decide_bitNat (b : Bool) : (!b) = decide (bitNat b = 0) := by cases b <;> rfl

theorem bitNat_inj : ∀ {b c : Bool}, bitNat b = bitNat c → b = c := by decide

theorem bitNat_le_one : ∀ b : Bool, bitNat b ≤ 1 := by decide

/-- `bit n, v` in plain arithmetic (R157). -/
theorem bitTest_eq (k : Fin 8) (v : Byte) (c : Bool) :
    bitTest k v c = ⟨decide (v.toNat / 2 ^ k.val % 2 = 0), false, true, c⟩ := by
  rw [bitTest, not_eq_decide_bitNat, bitNat_getLsbD]

theorem exec_of_form_bit (h : i.form = .cb (.bit k x)) (s : State) :
    exec i s = .next ((s.advance 2).setFlags (bitTest k (readR8 s x) s.f.c)) := by
  rw [exec_eq_formMeaning, h]; rfl

/-- The rows of the table are the BIT instructions of their bits and operands (R282). -/
theorem form_of_mem_bitRows : ∀ row ∈ bitRows, row.1.form = .cb (.bit row.2.1 row.2.2) := by decide

/-! ### Rotates through the carry and swap, in plain arithmetic -/

/-- Two bytes that share no bit position, one above the other: their OR is their sum. -/
theorem toNat_or_of_disjoint {hi lo : Byte} (j : Nat) (hhi : 2 ^ j ∣ hi.toNat) (hlo : lo.toNat < 2 ^ j) :
    (hi ||| lo).toNat = hi.toNat + lo.toNat := by
  obtain ⟨m, hm⟩ := hhi
  rw [BitVec.toNat_or, hm, Nat.two_pow_add_eq_or_of_lt hlo]

theorem bitByte_toNat (b : Bool) : (bitByte b).toNat = bitNat b := by cases b <;> rfl

/-- `rl` (R151). -/
theorem rl_toNat (v : Byte) (c : Bool) : (rl v c).1.toNat = v.toNat * 2 % 256 + bitNat c := by
  have hc := bitNat_le_one c
  have hhi : (v <<< 1).toNat = v.toNat * 2 % 256 := by rw [BitVec.toNat_shiftLeft, Nat.shiftLeft_eq]
  rw [← bitByte_toNat] at hc ⊢
  rw [← hhi]
  exact toNat_or_of_disjoint 1 (by omega) (by omega)

/-- `rr` (R152). -/
theorem rr_toNat (v : Byte) (c : Bool) : (rr v c).1.toNat = v.toNat / 2 + bitNat c * 128 := by
  have hv := v.isLt
  have hlo : (v >>> 1).toNat = v.toNat / 2 := by rw [BitVec.toNat_ushiftRight, Nat.shiftRight_eq_div_pow]
  have hhi : (bitByte c <<< 7).toNat = bitNat c * 128 := by cases c <;> rfl
  rw [← hhi, ← hlo, Nat.add_comm]
  exact (congrArg BitVec.toNat (BitVec.or_comm _ _)).trans (toNat_or_of_disjoint 7 (by omega) (by omega))

/-- `swap` (R156). -/
theorem swapNibbles_toNat (v : Byte) : (swapNibbles v).1.toNat = v.toNat % 16 * 16 + v.toNat / 16 := by
  have hv := v.isLt
  have hhi : (v <<< 4).toNat = v.toNat % 16 * 16 := by rw [BitVec.toNat_shiftLeft, Nat.shiftLeft_eq]; omega
  have hlo : (v >>> 4).toNat = v.toNat / 16 := by rw [BitVec.toNat_ushiftRight, Nat.shiftRight_eq_div_pow]
  rw [← hhi, ← hlo]
  exact toNat_or_of_disjoint 4 (by omega) (by omega)

/-! ### The laws (R161) -/

/-- `rlc` is `rl` with bit 7 brought in (R149, R151). -/
theorem rlc_eq_rl (v : Byte) : rlc v = rl v (v.getLsbD 7) := rfl

/-- `rrc` is `rr` with bit 0 brought in (R150, R152). -/
theorem rrc_eq_rr (v : Byte) : rrc v = rr v (v.getLsbD 0) := rfl

/-- The carry brought in by `rl` stands in bit 0. -/
theorem rl_getLsbD_zero (v : Byte) (c : Bool) : (rl v c).1.getLsbD 0 = c := by
  have hc := bitNat_le_one c
  apply bitNat_inj
  rw [bitNat_getLsbD, rl_toNat]
  omega

/-- The carry brought in by `rr` stands in bit 7. -/
theorem rr_getLsbD_seven (v : Byte) (c : Bool) : (rr v c).1.getLsbD 7 = c := by
  have hv := v.isLt
  have hc := bitNat_le_one c
  apply bitNat_inj
  rw [bitNat_getLsbD, rr_toNat]
  omega

/-- `rr` undoes `rl` when it brings in the bit that `rl` shifted out. -/
theorem rr_rl (v : Byte) (c : Bool) : (rr (rl v c).1 (v.getLsbD 7)).1 = v := by
  have hv := v.isLt
  have hc := bitNat_le_one c
  apply BitVec.eq_of_toNat_eq
  rw [rr_toNat, rl_toNat, bitNat_getLsbD]
  omega

/-- `rl` undoes `rr` when it brings in the bit that `rr` shifted out. -/
theorem rl_rr (v : Byte) (c : Bool) : (rl (rr v c).1 (v.getLsbD 0)).1 = v := by
  have hv := v.isLt
  apply BitVec.eq_of_toNat_eq
  rw [rl_toNat, rr_toNat, bitNat_getLsbD]
  omega

theorem rrc_rlc (v : Byte) : (rrc (rlc v).1).1 = v := by
  rw [rlc_eq_rl, rrc_eq_rr, rl_getLsbD_zero, rr_rl]

theorem rlc_rrc (v : Byte) : (rlc (rrc v).1).1 = v := by
  rw [rrc_eq_rr, rlc_eq_rl, rr_getLsbD_seven, rl_rr]

theorem swapNibbles_swapNibbles (v : Byte) : (swapNibbles (swapNibbles v).1).1 = v := by
  have hv := v.isLt
  apply BitVec.eq_of_toNat_eq
  rw [swapNibbles_toNat, swapNibbles_toNat]
  omega

/-- Z of `swap` is that of its result, the other flags are 0 (R156). -/
theorem swapNibbles_flags (v : Byte) : (swapNibbles v).2 = ⟨decide ((swapNibbles v).1 = 0), false, false, false⟩ := rfl

theorem sub8_add8 (a v : Byte) : (sub8 (add8 a v).1 v).1 = a := BitVec.add_sub_cancel a v

/-- Z of `sub8` is that of its result (R133). -/
theorem sub8_z (a v : Byte) : (sub8 a v).2.z = decide ((sub8 a v).1 = 0) := rfl

/-- F packed has its low nibble zero (R24). -/
theorem pack_low_nibble (f : Flags) : f.pack &&& 0x0F = 0 := by
  obtain ⟨z, n, h, c⟩ := f
  revert z n h c
  decide

end AluPrimitives

/-- Settles O45: the primitive is plain addition, and each of the nine instructions writes its answer to A and the flags. -/
theorem addsToA : Obligations.AddsToA := by
  unfold Obligations.AddsToA
  exact ⟨add8_binaryResult, fun row hrow => operates_add_of_form (form_of_mem_addRows row hrow), operates_addAD8⟩

/-- Settles O53: the complement of bit n says that the bit as a number is 0, and BIT writes the flags and PC alone. -/
theorem bitTests : Obligations.BitTests := by
  unfold Obligations.BitTests
  refine ⟨bitTest_eq, fun row hrow s => ⟨_, exec_of_form_bit (form_of_mem_bitRows row hrow) s, bitTest_eq _ _ _, rfl, ?_⟩⟩
  exact read8_of_withCpu s rfl

/-- Settles O60: the operations undo each other in plain arithmetic, and Z is that of the value restored. -/
theorem aluLaws : Obligations.AluLaws := by
  unfold Obligations.AluLaws
  refine ⟨pack_low_nibble, fun a v => ⟨sub8_add8 a v, ?_⟩, fun v => ⟨swapNibbles_swapNibbles v, ?_⟩,
    fun v => ⟨rrc_rlc v, rlc_rrc v⟩, fun v c => ⟨rr_rl v c, rl_getLsbD_zero v c⟩⟩
  · rw [sub8_z, sub8_add8]
  · rw [swapNibbles_flags, swapNibbles_swapNibbles]

end Sys2Proof.Machine
end

section
/-! What a step answers, by the byte at PC and the length it calls for (47_system.md R320, R326; 60_exceptions.md R380-R382), and which
request the priority picks (60_exceptions.md R386). -/

namespace Sys2Proof.Machine
open Sys2Proof.Stmt

section StepAnswers
variable {s : State} {i : Instr} {op : Byte} {tail rest : List Byte}

/-- The fetch decodes bytes that begin with the byte at PC. -/
theorem decode_of_fetch (h : fetch s = .ok i) : ∃ tail rest, decode (read8 s s.pc :: tail) = .ok (i, rest) := by
  have hpos : 1 ≤ opLength (read8 s s.pc) := by rcases opLength_cases (read8 s s.pc) with hl | hl | hl <;> omega
  obtain ⟨tail, -, hbytes⟩ := fetchBytes_cons s hpos
  simp only [fetch, hbytes] at h
  split at h
  · cases h
  · split at h
    next j rest hdecode =>
      cases h
      exact ⟨tail, rest, hdecode⟩
    next => cases h

/-- An instruction read from one of the eleven bytes is the trap. -/
theorem exec_of_decode_invalid (h : decode (op :: tail) = .ok (i, rest)) (hop : op ∈ invalidBytes) (s : State) :
    exec i s = .fault (.invalidOpcode s.pc op) := by
  rw [decode_cons_of_opLength_one (opLength_of_mem_invalidBytes op hop)] at h
  cases h
  exact exec_of_form_invalid (decodeBase_form_of_mem_invalidBytes op hop) s

/-- An instruction read from any other byte has a next state. -/
theorem exec_next_of_decode (h : decode (op :: tail) = .ok (i, rest)) (hop : op ∉ invalidBytes) (s : State) :
    ∃ t, exec i s = .next t := by
  rw [exec_eq_formMeaning]
  exact formMeaning_next i.form (formRuns_of_decode h hop) s

/-- An invalid byte is fetched whole wherever PC is: it is one byte long. -/
theorem not_mem_invalidBytes_of_fetchWrap (h : 0x10000 < s.pc.toNat + opLength (read8 s s.pc)) : read8 s s.pc ∉ invalidBytes := by
  intro hop
  have hlen := opLength_of_mem_invalidBytes _ hop
  have hpc := s.pc.isLt
  omega

variable (s)

/-- What one step answers: the refusal, one of the two faults, or a next state, each under its own condition. -/
theorem step_answers :
    (s.stopped = true ∧ step s = .refused .stopped) ∨
    (s.stopped = false ∧ 0x10000 < s.pc.toNat + opLength (read8 s s.pc) ∧ read8 s s.pc ∉ invalidBytes ∧
      step s = .fault (.fetchWrap s.pc)) ∨
    (s.stopped = false ∧ s.pc.toNat + opLength (read8 s s.pc) ≤ 0x10000 ∧ read8 s s.pc ∈ invalidBytes ∧
      step s = .fault (.invalidOpcode s.pc (read8 s s.pc))) ∨
    (s.stopped = false ∧ s.pc.toNat + opLength (read8 s s.pc) ≤ 0x10000 ∧ read8 s s.pc ∉ invalidBytes ∧ ∃ t, step s = .next t) := by
  rcases step_cases s with ⟨hs, hstep⟩ | ⟨hs, hwrap, hstep⟩ | ⟨hs, hfits, i, hfetch, -, -, -, hstep⟩
  · exact .inl ⟨hs, hstep⟩
  · exact .inr (.inl ⟨hs, hwrap, not_mem_invalidBytes_of_fetchWrap hwrap, hstep⟩)
  · obtain ⟨tail, rest, hdecode⟩ := decode_of_fetch hfetch
    by_cases hop : read8 s s.pc ∈ invalidBytes
    · rw [exec_of_decode_invalid hdecode hop s] at hstep
      exact .inr (.inr (.inl ⟨hs, hfits, hop, hstep⟩))
    · obtain ⟨t, ht⟩ := exec_next_of_decode hdecode hop s
      rw [ht] at hstep
      exact .inr (.inr (.inr ⟨hs, hfits, hop, _, hstep⟩))

end StepAnswers

section Priority
variable {p : Byte}

/-- A byte with a bit under the mask of R384 has one of its bits 0 to 4 set. -/
theorem exists_bit_of_masked_ne_zero (h : p &&& 0x1F ≠ 0) : ∃ k < 5, p.getLsbD k = true := by
  by_contra! hclear
  have hmask : ∀ k < 8, 5 ≤ k → (0x1F#8).getLsbD k = false := by decide
  apply h
  ext k hk
  rw [← BitVec.getLsbD_eq_getElem, ← BitVec.getLsbD_eq_getElem, BitVec.getLsbD_and]
  by_cases hlow : k < 5
  · simp [hclear k hlow]
  · simp [hmask k hk (by omega)]

theorem highestPriority_lt (p : Byte) : highestPriority p < 5 := by
  unfold highestPriority
  repeat' split
  all_goals decide

/-- The search passes only clear bits. -/
theorem getLsbD_of_lt_highestPriority {j : Nat} (h : j < highestPriority p) : p.getLsbD j = false := by
  unfold highestPriority at h
  repeat' split at h
  all_goals interval_cases j <;> simp_all

/-- The search stops at a set bit, or at bit 4 untested. -/
theorem getLsbD_highestPriority_or (p : Byte) : p.getLsbD (highestPriority p) = true ∨ highestPriority p = 4 := by
  unfold highestPriority
  repeat' split
  all_goals simp_all

theorem getLsbD_highestPriority (h : p &&& 0x1F ≠ 0) : p.getLsbD (highestPriority p) = true := by
  rcases getLsbD_highestPriority_or p with hset | hlast
  · exact hset
  · obtain ⟨k, hk, hbit⟩ := exists_bit_of_masked_ne_zero h
    have hge : ¬ k < highestPriority p := fun hlt => by simp [getLsbD_of_lt_highestPriority hlt] at hbit
    obtain rfl : k = highestPriority p := by omega
    exact hbit

end Priority

/-- Settles O8: the four answers of a step have conditions that exclude each other, so each answer implies its own. -/
theorem stepStopsExactlyWhere : Obligations.StepStopsExactlyWhere := by
  unfold Obligations.StepStopsExactlyWhere
  intro s
  rcases step_answers s with ⟨hs, hstep⟩ | ⟨hs, hwrap, hop, hstep⟩ | ⟨hs, hfits, hop, hstep⟩ | ⟨hs, hfits, hop, t, hstep⟩
  · simp [hstep, hs, eq_comm]
  · simp [hstep, hs, hwrap, hop, eq_comm]
  · simp [hstep, hs, hfits, hop, eq_comm]
  · simp [hstep, hs, hfits, hop]

/-- Settles O32: the search passes only clear bits and stops at a set one, at bit 4 because the byte has a bit under the mask. -/
theorem priorityIsTheLowestBit : Obligations.PriorityIsTheLowestBit := by
  unfold Obligations.PriorityIsTheLowestBit
  exact fun p h => ⟨highestPriority_lt p, getLsbD_highestPriority h, fun j hj => getLsbD_of_lt_highestPriority hj⟩

end Sys2Proof.Machine
end

section
/-! The round trip of the encoding in both directions, and the row of the byte 0xCB (30_encoding.md R90, R93, R102-R111). -/

namespace Sys2Proof
open Sys2Proof.Machine Sys2Proof.Stmt

section RoundTrip
variable {i j : Instr} {op : Byte} {tail rest : List Byte}

/-- Decoding undoes encoding. A word operand is put together again from its two bytes; every other operand is a byte that the decoder
passes on, so both sides evaluate to the same answer. -/
theorem decode_encode_append (h : i.wellFormed = true) (rest : List Byte) : decode (encode i ++ rest) = .ok (i, rest) := by
  cases i with
  | prefixCb b2 => exact Laws.Encoding.prefixCb b2 h rest
  | ldBcD16 d16 => exact Laws.Encoding.ldBcD16 d16 h rest
  | ldDeD16 d16 => exact Laws.Encoding.ldDeD16 d16 h rest
  | ldHlD16 d16 => exact Laws.Encoding.ldHlD16 d16 h rest
  | ldSpD16 d16 => exact Laws.Encoding.ldSpD16 d16 h rest
  | ldAtA16Sp a16 => exact Laws.Encoding.ldAtA16Sp a16 h rest
  | ldAtA16A a16 => exact Laws.Encoding.ldAtA16A a16 h rest
  | ldAAtA16 a16 => exact Laws.Encoding.ldAAtA16 a16 h rest
  | jpA16 a16 => exact Laws.Encoding.jpA16 a16 h rest
  | jpNzA16 a16 => exact Laws.Encoding.jpNzA16 a16 h rest
  | jpZA16 a16 => exact Laws.Encoding.jpZA16 a16 h rest
  | jpNcA16 a16 => exact Laws.Encoding.jpNcA16 a16 h rest
  | jpCA16 a16 => exact Laws.Encoding.jpCA16 a16 h rest
  | callA16 a16 => exact Laws.Encoding.callA16 a16 h rest
  | callNzA16 a16 => exact Laws.Encoding.callNzA16 a16 h rest
  | callZA16 a16 => exact Laws.Encoding.callZA16 a16 h rest
  | callNcA16 a16 => exact Laws.Encoding.callNcA16 a16 h rest
  | callCA16 a16 => exact Laws.Encoding.callCA16 a16 h rest
  | _ => rfl

theorem decode_encode (h : i.wellFormed = true) : decode (encode i) = .ok (i, []) := by
  simpa using decode_encode_append h []

/-- Well-formed instructions of one form are the same instruction: they have the same encoding. -/
theorem eq_of_form_eq (hi : i.wellFormed = true) (hj : j.wellFormed = true) (h : i.form = j.form) : i = j := by
  have hdecode : decode (encode j) = .ok (i, []) := by
    rw [← decode_encode hi, encode, encode, h]
  rw [decode_encode hj] at hdecode
  simp_all

theorem wellFormed_or_prefix (i : Instr) : i.wellFormed = true ∨ ∃ b2, i = .prefixCb b2 := by
  unfold Instr.wellFormed
  split
  · exact .inr ⟨_, rfl⟩
  · exact .inl rfl

/-- An instruction with the form of a well-formed one outside the CB map is that one. -/
theorem eq_of_form_eq_of_not_cb (hj : j.wellFormed = true) (hcb : ∀ op, j.form ≠ .cb op) (h : i.form = j.form) : i = j := by
  rcases wellFormed_or_prefix i with hi | ⟨b2, rfl⟩
  · exact eq_of_form_eq hi hj h
  · exact absurd h.symm (hcb _)

/-- The decoder looks an instruction up in the CB map after the byte 0xCB, and in the base map under any other byte. -/
theorem decode_lookup (h : decode (op :: tail) = .ok (i, rest)) :
    (op = 0xCB ∧ ∃ b2, i = decodeCb b2) ∨ (op ≠ 0xCB ∧ ∃ n w, i = decodeBase op n w) := by
  by_cases hcb : op = 0xCB
  · subst hcb
    cases tail with
    | nil => cases h
    | cons b2 tail => cases h; exact .inl ⟨rfl, b2, rfl⟩
  · refine .inr ⟨hcb, ?_⟩
    simp only [decode, if_neg hcb] at h
    repeat' split at h
    all_goals cases h
    all_goals exact ⟨_, _, rfl⟩

theorem wellFormed_of_decode (h : decode (op :: tail) = .ok (i, rest)) : i.wellFormed = true := by
  rcases decode_lookup h with ⟨-, b2, rfl⟩ | ⟨hcb, n, w, rfl⟩
  · exact (decodeCb_entry b2).1
  · exact (decodeBase_entry n w op hcb).wellFormed

/-- The first byte gives the length (R93). -/
theorem length_of_decode (h : decode (op :: tail) = .ok (i, rest)) : i.form.length = opLength op := by
  rcases decode_lookup h with ⟨rfl, b2, rfl⟩ | ⟨hcb, n, w, rfl⟩
  · exact (decodeCb_entry b2).2.1
  · exact (decodeBase_entry n w op hcb).length

theorem encodeForm_length (f : Form) : (encodeForm f).length = f.length := by
  cases f with
  | ldAInd p => cases p <;> rfl
  | ldIndA p => cases p <;> rfl
  | rotA op => cases op <;> rfl
  | _ => rfl

/-- The decoder answers an instruction when it has the bytes that the first one calls for: those bytes decode, and what follows them
stays. -/
theorem exists_decode_of_length_le (h : opLength op ≤ (op :: tail).length) : ∃ i rest, decode (op :: tail) = .ok (i, rest) := by
  have hpos : 1 ≤ opLength op := by rcases opLength_cases op with hl | hl | hl <;> omega
  rw [List.length_cons] at h
  obtain ⟨i, -, hwf, -, henc⟩ := decode_exact op (tail.take (opLength op - 1)) (by rw [List.length_take]; omega)
  refine ⟨i, tail.drop (opLength op - 1), ?_⟩
  rw [← decode_encode_append hwf, henc, List.cons_append, List.take_append_drop]

end RoundTrip

section PrefixRow

/-- The CB map by bytes and the CB map by fields give the same form (R107). -/
theorem decodeCb_form : ∀ b2 : Byte, (decodeCb b2).form = .cb (cbForm b2) := by decide

theorem exec_prefixCb (b2 : Byte) (s : State) : exec (.prefixCb b2) s = exec (decodeCb b2) s := by
  rw [exec_eq_formMeaning, exec_eq_formMeaning, decodeCb_form]
  rfl

theorem decodeCb_ne_prefixCb (b2 : Byte) : decodeCb b2 ≠ .prefixCb b2 := by
  intro h
  have hwf : (decodeCb b2).wellFormed = true := (decodeCb_entry b2).1
  rw [h] at hwf
  cases hwf

end PrefixRow

/-- Settles O1: the round trip above. -/
theorem decodeOfEncodeIsTheInstruction : Obligations.DecodeOfEncodeIsTheInstruction := by
  unfold Obligations.DecodeOfEncodeIsTheInstruction
  exact fun i rest h => decode_encode_append h rest

/-- Settles O2: the bytes read are the encoding, whose length is that of the form and of the first byte. -/
theorem encodeOfDecodeIsTheBytes : Obligations.EncodeOfDecodeIsTheBytes := by
  unfold Obligations.EncodeOfDecodeIsTheBytes
  intro bytes
  refine ⟨fun i rest h => ?_, ?_⟩
  · cases bytes with
    | nil => cases h
    | cons op tail =>
      refine ⟨wellFormed_of_decode h, encode_append_of_decode h, encodeForm_length i.form, ?_⟩
      rw [length_of_decode h]
      rcases opLength_cases op with hl | hl | hl <;> omega
  · rintro op tail rfl h
    exact exists_decode_of_length_le h

/-- Settles O3: each word by evaluation of the decoder. -/
theorem specWordsDecode : Obligations.SpecWordsDecode := by
  unfold Obligations.SpecWordsDecode
  exact ⟨rfl, rfl, rfl, rfl, rfl, rfl, rfl, rfl, rfl, rfl, rfl, rfl, rfl⟩

/-- Settles O59: the decoder reads the CB instruction of the second byte, which has the form and so the meaning of the row of 0xCB. -/
theorem prefixRowMeansItsSecondByte : Obligations.PrefixRowMeansItsSecondByte := by
  unfold Obligations.PrefixRowMeansItsSecondByte
  intro b2 s
  obtain ⟨t, ht⟩ := formMeaning_next (.cb (cbForm b2)) rfl s
  refine ⟨decodeCb b2, t, rfl, decodeCb_ne_prefixCb b2, exec_prefixCb b2 s, ?_⟩
  rw [exec_eq_formMeaning]
  exact ht

end Sys2Proof
end

section
/-! What a step does with the instruction at PC, and what every step keeps: the invariant, the cartridge, the count of cycles
(47_system.md R320, R329; 60_exceptions.md R385, R387; 70_reset_and_hazards.md R421-R424, R440). -/

namespace Sys2Proof.Machine
open Sys2Proof.Stmt

section FetchedInstruction
variable {s t u : State} {i : Instr} {f : Form}

theorem step_of_fetch (hs : s.stopped = false) (h : fetch s = .ok i) : step s = retire i s (exec i s) := by
  simp [step, hs, h]

/-- The bytes at PC are the encoding of an instruction, byte by byte. -/
def EncodedAtPc (s : State) (i : Instr) : Prop :=
  ∀ k < i.form.length, (encode i)[k]? = some (read8 s (s.pc + BitVec.ofNat 16 k))

theorem fetchBytes_of_encodedAtPc (h : EncodedAtPc s i) : fetchBytes s i.form.length = encode i := by
  have hlen : (encode i).length = i.form.length := encodeForm_length i.form
  apply List.ext_getElem?
  intro k
  by_cases hk : k < i.form.length
  · rw [h k hk]; simp [fetchBytes, hk]
  · simp [fetchBytes, hk, hlen]

/-- The fetch reads the instruction whose encoding stands at PC (R320 items 2 and 3). -/
theorem fetch_of_encodedAtPc (hwf : i.wellFormed = true) (hfits : s.pc.toNat + i.form.length ≤ 0x10000) (h : EncodedAtPc s i) :
    fetch s = .ok i := by
  have hbytes := fetchBytes_of_encodedAtPc h
  have hdecode : decode (fetchBytes s i.form.length) = .ok (i, []) := by rw [hbytes]; exact decode_encode hwf
  have hpos : 1 ≤ i.form.length := by
    rw [Nat.one_le_iff_ne_zero]
    intro h0
    rw [h0] at hdecode
    cases hdecode
  obtain ⟨tail, -, hcons⟩ := fetchBytes_cons s hpos
  have hlen : opLength (read8 s s.pc) = i.form.length := by
    rw [hcons] at hdecode
    exact (length_of_decode hdecode).symm
  simp only [fetch, hlen, hdecode, if_neg (Nat.not_lt.2 hfits)]

/-- An instruction that has a next state ticks, or is HALT, whose loop does. -/
theorem ticks_or_halt (h : exec i s = .next t) : i.form.ticks = true ∨ i.form = .halt := by
  cases hf : i.form with
  | halt => exact .inr rfl
  | invalid op => rw [exec_of_form_invalid hf] at h; cases h
  | _ => exact .inl rfl

theorem ticks_of_ne_halt (h : exec i s = .next t) (hf : i.form ≠ .halt) : i.form.ticks = true :=
  (ticks_or_halt h).resolve_right hf

theorem form_eq_halt_iff : i.form = .halt ↔ i = .halt :=
  ⟨fun h => eq_of_form_eq_of_not_cb (j := .halt) rfl (fun _ => Form.noConfusion) h, fun h => h ▸ rfl⟩

theorem waiting_zero (s : State) : waiting s 0 = { s.advance 1 with halted := true } := rfl

theorem exec_of_form_halt (h : i.form = .halt) :
    exec i s = .next (haltLoop s.imePending Config.haltFuseCycles 0 (waiting s 0)) := by
  rw [exec_eq_formMeaning, h, formMeaning, halt, waiting_zero]

theorem exec_shape (hf : i.form ≠ .halt) (h : exec i s = .next t) : Shape s t :=
  formMeaning_shape hf (exec_eq_formMeaning i s ▸ h)

/-- A step that answers a next state ran the fetched instruction and its `Tick`, or the loop of HALT. -/
theorem step_next_cases (h : step s = .next u) : ∃ i, fetch s = .ok i ∧
    ((i.form ≠ .halt ∧ ∃ t, exec i s = .next t ∧ Shape s t ∧ u = tick (i.form.tickCycles s.f) s.imePending t) ∨
     (i.form = .halt ∧ u = haltLoop s.imePending Config.haltFuseCycles 0 (waiting s 0))) := by
  rcases step_cases s with ⟨-, hr⟩ | ⟨-, -, hr⟩ | ⟨-, -, i, hfetch, -, -, -, hr⟩
  · rw [hr] at h; cases h
  · rw [hr] at h; cases h
  · rw [hr] at h
    obtain ⟨t, ht, hu⟩ := retire_next s h
    refine ⟨i, hfetch, ?_⟩
    by_cases hf : i.form = .halt
    · rw [exec_of_form_halt hf] at ht
      rw [hf, Form.ticks, if_neg Bool.false_ne_true] at hu
      exact .inr ⟨hf, hu.trans (Host.Outcome.next.inj ht).symm⟩
    · rw [if_pos (ticks_of_ne_halt ht hf)] at hu
      exact .inl ⟨hf, t, ht, exec_shape hf ht, hu⟩

end FetchedInstruction

section KeptByEveryStep
variable {s t u : State} {i : Instr}

/-! ### The invariant -/

theorem Shape.inv (h : Shape s t) (hs : s.Inv) : t.Inv := by
  obtain ⟨-, hwram, hvram, -, -⟩ := h.bus.board
  exact ⟨h.halted.trans hs.halted, hwram.trans hs.wramBank, hvram.trans hs.vramBank, h.bus.banksOk hs.banks, h.bus.memoryOk hs.memory⟩

theorem tick_inv (hs : s.Inv) (n : Nat) (p : Bool) : (tick n p s).Inv := by
  have hcore := tick_sameCore s n p
  exact ⟨tick_halted hs.halted n p, hcore.wramBank.trans hs.wramBank, hcore.vramBank.trans hs.vramBank, tick_banksOk hs.banks n p,
    tick_memoryOk hs.memory n p⟩

/-- The HALT loop ends with `halted` 0, so it may begin with `halted` 1. -/
theorem haltLoop_inv (hs : s.Inv) (p : Bool) (fuel elapsed : Nat) : (haltLoop p fuel elapsed (waiting s 0)).Inv := by
  have hcore := haltLoop_sameCore (waiting s 0) p fuel elapsed
  exact ⟨haltLoop_halted _ p fuel elapsed, hcore.wramBank.trans hs.wramBank, hcore.vramBank.trans hs.vramBank,
    haltLoop_banksOk (s := waiting s 0) hs.banks p fuel elapsed, haltLoop_memoryOk (s := waiting s 0) hs.memory p fuel elapsed⟩

theorem resetFrom_inv {o : OpenParams} (h : ParamsOk o) : (State.resetFrom o).Inv := by
  obtain ⟨h1, h2, h3, h4, h5, h6, h7, h8, h9, h10, h11, h12, h13, h14⟩ := h
  refine ⟨rfl, rfl, rfl, ?_, ?_⟩
  · have hmbc : (State.resetFrom o).cart.mbc = o.cart.mbc := rfl
    unfold State.banksOk
    rw [hmbc]
    cases o.cart.mbc <;> rfl
  · rw [State.memoryOk_iff]
    exact ⟨h1, h2, h3, h4, h5, h6, h7, h8, h9, h10, h11, h12, Memory.writeAll_wf _ h13,
      Memory.writeAll_within _ h14 (by decide)⟩

theorem Memory.read_writeAll_other {m : Memory} {x : Nat} (cells : List Host.Cell) (h : m.wf = true) (hne : ∀ cell ∈ cells, cell.1 ≠ x) :
    Memory.read (Memory.writeAll m cells) x = Memory.read m x := by
  induction cells generalizing m with
  | nil => rfl
  | cons cell rest ih =>
    obtain ⟨hcell, hrest⟩ := List.forall_mem_cons.1 hne
    rw [Memory.writeAll, ih (Memory.write_wf h) hrest, Memory.read_write_other h hcell.symm]

/-- Cells written at distinct elements all read back. -/
theorem Memory.read_writeAll_of_mem {m : Memory} {x : Nat} {v : Byte} (cells : List Host.Cell) (h : m.wf = true)
    (hdistinct : (cells.map Prod.fst).Nodup) (hmem : (x, v) ∈ cells) : Memory.read (Memory.writeAll m cells) x = v := by
  induction cells generalizing m with
  | nil => cases hmem
  | cons cell rest ih =>
    rw [List.map_cons, List.nodup_cons] at hdistinct
    obtain ⟨hfresh, hrest⟩ := hdistinct
    rw [Memory.writeAll]
    rcases List.mem_cons.1 hmem with rfl | hmem
    · have hother : ∀ cell ∈ rest, cell.1 ≠ x := fun cell hcell heq => hfresh (List.mem_map.2 ⟨cell, hcell, heq⟩)
      rw [Memory.read_writeAll_other rest (Memory.write_wf h) hother, Memory.read_write_same h]
    · exact ih (Memory.write_wf h) hrest hmem

theorem namedParams_ok : ParamsOk State.namedParams := by
  unfold ParamsOk
  decide

/-- Each of the nine I/O bytes that R424 fixes stands in its element after reset. -/
theorem resetFrom_io {o : OpenParams} (h : o.ioReset.wf = true) {x : Nat} {v : Byte} (hmem : (x, v) ∈ State.fixedIo) :
    Memory.read (State.resetFrom o).io x = v :=
  Memory.read_writeAll_of_mem State.fixedIo h (by decide) hmem

/-! ### The board -/

theorem Shape.sameBoard (h : Shape s t) :
    t.cart = s.cart ∧ t.params = s.params ∧ t.wramBank = s.wramBank ∧ t.vramBank = s.vramBank := by
  obtain ⟨hcart, hwram, hvram, -, -⟩ := h.bus.board
  exact ⟨hcart, h.params, hwram, hvram⟩

theorem SameCore.sameBoard (h : SameCore s t) :
    t.cart = s.cart ∧ t.params = s.params ∧ t.wramBank = s.wramBank ∧ t.vramBank = s.vramBank :=
  ⟨h.cart, h.params, h.wramBank, h.vramBank⟩

/-! ### The count -/

theorem vectorOf_toNat {k : Nat} (h : k < 5) : (vectorOf k).toNat = 0x40 + 8 * k := by
  rw [vectorOf, BitVec.toNat_ofNat]
  omega

/-- A dispatch goes to one of the five vectors. -/
theorem takeInterrupt_pc_vector (s : State) (p : Byte) : ∃ k < 5, (takeInterrupt (highestPriority p) s).pc.toNat = 0x40 + 8 * k :=
  ⟨highestPriority p, highestPriority_lt p, by rw [takeInterrupt_pc, vectorOf_toNat (highestPriority_lt p)]⟩

theorem beforeCheck_cycles (s : State) (n : Nat) (p : Bool) : (beforeCheck n p s).cycles = s.cycles + n := by
  obtain ⟨io, dp, bt, st, en, im, pe, -, h⟩ := beforeCheck_only s n p
  rw [h]

theorem tick_cycles (s : State) (n : Nat) (p : Bool) : (tick n p s).cycles = s.cycles + n ∨
    ((tick n p s).cycles = s.cycles + n + s.params.intDispatchCycles ∧ (tick n p s).ime = false ∧
      ∃ k < 5, (tick n p s).pc.toNat = 0x40 + 8 * k) := by
  rcases tick_cases s n p with ⟨-, h⟩ | ⟨-, -, h⟩
  · exact .inl (by rw [h, beforeCheck_cycles])
  · refine .inr ⟨?_, ?_, ?_⟩
    · rw [h, takeInterrupt_cycles, beforeCheck_cycles, (beforeCheck_sameCore s n p).params]
    · rw [h, takeInterrupt_ime]
    · rw [h]; exact takeInterrupt_pc_vector _ _

end KeptByEveryStep

/-- Settles O9: an instruction stays within `Shape` and a `Tick` follows, or the HALT loop runs; each keeps the invariant. -/
theorem stepKeepsInv : Obligations.StepKeepsInv := by
  unfold Obligations.StepKeepsInv
  intro s u hs h
  obtain ⟨i, -, ⟨-, t, -, hshape, rfl⟩ | ⟨-, rfl⟩⟩ := step_next_cases h
  · exact tick_inv (hshape.inv hs) _ _
  · exact haltLoop_inv hs _ _ _

/-- Settles O12: a step ends in a `Tick`, its own or the last one of the HALT loop. -/
theorem noEnabledRequestOutlivesAStep : Obligations.NoEnabledRequestOutlivesAStep := by
  unfold Obligations.NoEnabledRequestOutlivesAStep
  intro s u h hime
  obtain ⟨i, -, ⟨-, t, -, -, rfl⟩ | ⟨-, rfl⟩⟩ := step_next_cases h
  · exact tick_no_enabled_request t _ _ hime
  · obtain ⟨fuel, hfuel⟩ : ∃ fuel, Config.haltFuseCycles = fuel + 1 := ⟨70223, rfl⟩
    rw [hfuel] at hime ⊢
    exact haltLoop_no_enabled_request _ _ fuel 0 hime

/-- Settles O18: neither an instruction within `Shape` nor a `Tick` changes the board. -/
theorem noStepWritesTheCartridge : Obligations.NoStepWritesTheCartridge := by
  unfold Obligations.NoStepWritesTheCartridge
  intro s u h
  obtain ⟨i, -, ⟨-, t, -, hshape, rfl⟩ | ⟨-, rfl⟩⟩ := step_next_cases h
  · obtain ⟨hcart, hparams, hwram, hvram⟩ := hshape.sameBoard
    rw [← hcart, ← hparams, ← hwram, ← hvram]
    exact (tick_sameCore t _ _).sameBoard
  · exact (haltLoop_sameCore (waiting s 0) _ _ _).sameBoard

/-- Settles O19: the instruction itself counts nothing, its `Tick` counts the record's cycles and the charge of a dispatch. -/
theorem stepCountsItsCycles : Obligations.StepCountsItsCycles := by
  unfold Obligations.StepCountsItsCycles
  intro s u i h hfetch hne
  obtain ⟨j, hj, hcases⟩ := step_next_cases h
  obtain rfl : j = i := by simpa [hfetch] using hj.symm
  obtain ⟨-, t, -, hshape, rfl⟩ | ⟨hf, -⟩ := hcases
  · rw [← hshape.cycles, ← hshape.params]
    exact tick_cycles t _ _
  · exact absurd (form_eq_halt_iff.1 hf) hne

/-- Settles O6: the fetch reads the instruction back from its encoding, and HALT is the one completing instruction without a `Tick`. -/
theorem stepRunsTheDecodedInstruction : Obligations.StepRunsTheDecodedInstruction := by
  unfold Obligations.StepRunsTheDecodedInstruction
  intro s i hs hwf hfits hbytes
  rw [step_of_fetch hs (fetch_of_encodedAtPc hwf hfits hbytes)]
  cases hexec : exec i s with
  | next t =>
    by_cases hi : i = .halt
    · simp [retire, hi, Instr.form, Form.ticks]
    · simp [retire, hi, ticks_of_ne_halt hexec (mt form_eq_halt_iff.1 hi)]
  | fault e => rfl
  | refused r => rfl

/-- The rows of the table are the instructions of the invalid form with their bytes (R329). -/
theorem form_of_mem_invalidRows : ∀ row ∈ invalidRows, row.1.form = .invalid row.2 := by decide

/-- Settles O7: an instruction of the invalid form is the trap. -/
theorem invalidOpcodesFault : Obligations.InvalidOpcodesFault := by
  unfold Obligations.InvalidOpcodesFault
  exact fun row hrow s => exec_of_form_invalid (form_of_mem_invalidRows row hrow) s

/-- Settles O10: reset leaves what the invariant asks of the banks for each MBC kind, and the nine I/O bytes lie inside the array. -/
theorem resetMeetsInv : Obligations.ResetMeetsInv := by
  unfold Obligations.ResetMeetsInv
  exact ⟨fun o h => resetFrom_inv h, resetFrom_inv (o := State.namedParams) namedParams_ok⟩

/-- Settles O11: the registers by evaluation; the nine I/O bytes by the lemma above. -/
theorem resetValues : Obligations.ResetValues := by
  unfold Obligations.ResetValues
  rintro o s rfl
  have hpack : Flags.pack ⟨true, false, true, true⟩ = 0xB0 := by decide
  have hbc : pairWord 0x00 0x13 = 0x0013 := by decide
  have hde : pairWord 0x00 0xD8 = 0x00D8 := by decide
  have hhl : pairWord 0x01 0x4D = 0x014D := by decide
  refine ⟨⟨rfl, hpack, hbc, hde, hhl, rfl, rfl⟩, ⟨rfl, rfl, rfl, rfl, rfl, rfl, rfl⟩, ⟨rfl, rfl, rfl, rfl, rfl⟩,
    ⟨rfl, rfl, rfl, rfl, rfl, rfl⟩, ⟨rfl, rfl⟩, fun h => ?_⟩
  have hread {x : Nat} {v : Byte} (hmem : (x, v) ∈ State.fixedIo) := resetFrom_io h hmem
  exact ⟨hread (by decide), hread (by decide), hread (by decide), hread (by decide), hread (by decide), hread (by decide),
    hread (by decide), hread (by decide), hread (by decide)⟩

end Sys2Proof.Machine
end

section
/-! The regions of the address space as elements of storage, byte and word stores and what they leave alone, the bank registers, the
joypad register and OAM DMA (20_memory.md sections 1 to 4 and 6; 60_exceptions.md R406). -/

namespace Sys2Proof.Machine
open Sys2Proof.Stmt

section Regions
variable {s t : State} {addr other : Word} {v : Byte} {loc loc' : Loc}

/-! ### The routing of the RAM regions -/

theorem locate_of_vramWindow (h : 0x8000 ≤ addr.toNat) (h' : addr.toNat < 0xA000) :
    locate s addr = .vram (s.vramBank.toNat * 0x2000 + (addr.toNat - 0x8000)) := by
  simp only [locate]
  rw [if_neg (by omega), if_neg (by omega), if_pos h']

theorem locate_of_wramWindow (h : 0xC000 ≤ addr.toNat) (h' : addr.toNat < 0xE000) : locate s addr = wramLoc s addr.toNat := by
  simp only [locate]
  rw [if_neg (by omega), if_neg (by omega), if_neg (by omega), if_neg (by omega), if_pos h']

theorem locate_of_echo (h : 0xE000 ≤ addr.toNat) (h' : addr.toNat < 0xFE00) : locate s addr = wramLoc s (addr.toNat - 0x2000) := by
  simp only [locate]
  iterate 5 rw [if_neg (by omega)]
  rw [if_pos h']

theorem locate_of_oamWindow (h : 0xFE00 ≤ addr.toNat) (h' : addr.toNat < 0xFEA0) : locate s addr = .oam (addr.toNat - 0xFE00) := by
  simp only [locate]
  iterate 6 rw [if_neg (by omega)]
  rw [if_pos h']

theorem locate_of_ioPage (h : 0xFF00 ≤ addr.toNat) (h' : addr.toNat < 0xFF80) : locate s addr = ioLoc (addr.toNat - 0xFF00) := by
  simp only [locate]
  iterate 8 rw [if_neg (by omega)]
  rw [if_pos h']

theorem ioLoc_of_array {k : Nat} (h : k ≠ 0) (h' : ¬ (0x40 ≤ k ∧ k ≤ 0x4B)) : ioLoc k = .io k := by
  simp [ioLoc, h, h']

theorem locate_of_hramWindow (h : 0xFF80 ≤ addr.toNat) (h' : addr.toNat < 0xFFFF) : locate s addr = .hram (addr.toNat - 0xFF80) := by
  simp only [locate]
  iterate 9 rw [if_neg (by omega)]
  rw [if_pos h']

/-- An address of the data space reads and writes the location it leads to. -/
theorem access_of_locate (h : 0x8000 ≤ addr.toNat) (hloc : locate s addr = loc) :
    read8 s addr = readLoc s loc ∧ write8 s addr v = writeLoc s loc v := by
  rw [write8_of_high h, hloc]
  exact ⟨congrArg (readLoc s) hloc, rfl⟩

/-! ### One byte stored -/

/-- `Apart` is the premise of the law that a data write leaves another location alone. -/
theorem apart_iff : Apart loc loc' ↔ loc' ≠ loc ∧ ¬ loc.disturbs loc' := by
  cases loc <;> cases loc' <;> simp [Apart, Loc.disturbs]

theorem readLoc_withCpu (s u : State) (loc : Loc) : readLoc (s.withCpu u) loc = readLoc s loc := by
  cases loc <;> rfl

theorem readLoc_write8_of_low (h : addr.toNat < 0x8000) (loc : Loc) : readLoc (write8 s addr v) loc = readLoc s loc := by
  obtain ⟨rb, eb, re, bm, hb⟩ := bankWrite_only s v addr.toNat
  rw [write8_of_low h, hb]
  cases loc <;> rfl

theorem readLoc_write8_of_untouched (hm : s.memoryOk = true) (h : Untouched s addr loc) :
    readLoc (write8 s addr v) loc = readLoc s loc := by
  by_cases hlow : addr.toNat < 0x8000
  · exact readLoc_write8_of_low hlow loc
  · obtain ⟨hne, hd⟩ := apart_iff.1 (h (by omega))
    rw [write8_of_high (by omega)]
    exact readLoc_writeLoc_other v hm (locate_inRange s addr) hne hd

theorem read8_write8_of_outside (hm : s.memoryOk = true) (h : Outside s addr other) :
    read8 (write8 s addr v) other = read8 s other := by
  unfold Outside at h
  split at h
  next hlow =>
    obtain ⟨hrom, heram⟩ := h
    rw [read8, locate_write8_low hlow hrom heram, readLoc_write8_of_low hlow, ← read8]
  next hlow =>
    obtain ⟨hne, hd⟩ := apart_iff.1 h
    exact read8_write8_other hm (by omega) hne hd

theorem write8_sameStorage (h : addr.toNat < 0x8000) : SameStorage s (write8 s addr v) := by
  obtain ⟨rb, eb, re, bm, hb⟩ := bankWrite_only s v addr.toNat
  rw [write8_of_low h, hb]
  exact ⟨rfl, rfl, rfl, rfl, rfl, rfl, rfl, rfl⟩

theorem writeLoc_sameBanks (s : State) (loc : Loc) (v : Byte) : SameBanks s (writeLoc s loc v) := by
  cases loc with
  | ppu k =>
    obtain ⟨o, ho⟩ := ppuWrite_only s v k
    simp only [writeLoc, ho]
    exact ⟨rfl, rfl, rfl, rfl⟩
  | _ => exact ⟨rfl, rfl, rfl, rfl⟩

theorem write8_sameBanks (h : 0x8000 ≤ addr.toNat) : SameBanks s (write8 s addr v) := by
  rw [write8_of_high h]
  exact writeLoc_sameBanks s _ v

/-- A byte store in the words of the statements (R50 to R71). -/
theorem write8_byteStored (hm : s.memoryOk = true) (addr : Word) (v : Byte) : ByteStored s (write8 s addr v) addr v := by
  refine ⟨fun h => ?_, fun other h => read8_write8_of_outside hm h, fun loc h => readLoc_write8_of_untouched hm h,
    write8_sameStorage, write8_sameBanks⟩
  rw [plainRam_iff_stores] at h
  exact read8_write8_same hm (high_of_stores h) h

theorem byteStored_withCpu (h : ByteStored s t addr v) (u : State) : ByteStored s (t.withCpu u) addr v := by
  obtain ⟨hsame, hother, hloc, hstorage, hbanks⟩ := h
  refine ⟨fun hp => ?_, fun other ho => ?_, fun loc hl => ?_, hstorage, hbanks⟩
  · rw [read8_withCpu]; exact hsame hp
  · rw [read8_withCpu]; exact hother other ho
  · rw [readLoc_withCpu]; exact hloc loc hl

theorem write8_sameProcessor (s : State) (addr : Word) (v : Byte) : SameProcessor s (write8 s addr v) := by
  simp [SameProcessor]

/-! ### One word stored -/

/-- The store of the low byte does not move where the address of the high byte leads: a bank-register write moves the ROM and external
RAM windows only, and neither begins right above a bank register outside them. -/
theorem locate_write8_next (h : 0x8000 ≤ (addr + 1).toNat) : locate (write8 s addr v) (addr + 1) = locate s (addr + 1) := by
  by_cases hlow : addr.toNat < 0x8000
  · exact locate_write8_low hlow (by bv_omega) (by bv_omega)
  · exact locate_of_sameMap _ (write8_sameMap s v (by omega))

theorem untouched_write8_next (h : Untouched s (addr + 1) loc) : Untouched (write8 s addr v) (addr + 1) loc := by
  intro hhigh
  rw [locate_write8_next hhigh]
  exact h hhigh

/-- An address outside both bytes of a word is outside the high one after the low one is stored. -/
theorem outside_write8_next (h : Outside s addr other) (h' : Outside s (addr + 1) other) :
    Outside (write8 s addr v) (addr + 1) other := by
  unfold Outside at h h' ⊢
  split at h'
  next hnext => rwa [if_pos hnext]
  next hnext =>
    have hother : locate (write8 s addr v) other = locate s other := by
      split at h
      next hlow => exact locate_write8_low hlow h.1 h.2
      next hlow => exact locate_of_sameMap other (write8_sameMap s v (by omega))
    rw [if_neg hnext, locate_write8_next (by omega), hother]
    exact h'

/-- RAM lies outside the byte that follows it: no bank window, register or DMA begins where it would reach back. -/
theorem outside_next_of_plainRam (h : PlainRam s addr) : Outside s (addr + 1) addr := by
  rw [plainRam_iff_stores] at h
  have hhigh : 0x8000 ≤ addr.toNat := high_of_stores h
  unfold Outside
  split
  next hnext => constructor <;> bv_omega
  next hnext =>
    have hmapped : locate s addr ≠ .unmapped := fun hu => by simp [hu, Loc.stores] at h
    refine apart_iff.2 ⟨(locate_add_one_ne hmapped).symm, fun hd => ?_⟩
    have hrange := locate_inRange s addr
    cases hloc : locate s addr with
    | ppu k => simp [hloc, Loc.stores] at h
    | io k =>
      rw [hloc] at hd hrange
      cases hnext' : locate s (addr + 1) with
      | joyp => rw [hnext'] at hd; exact hrange.2.1 hd
      | _ => rw [hnext'] at hd; exact hd
    | oam k =>
      rw [hloc] at hd
      cases hnext' : locate s (addr + 1) with
      | ppu j =>
        have hoam := locate_oam_range hloc
        have hppu := locate_ppu_range hnext'
        bv_omega
      | _ => rw [hnext'] at hd; exact hd
    | _ => rw [hloc] at hd; cases hnext' : locate s (addr + 1) <;> rw [hnext'] at hd <;> exact hd

/-- A word store in the words of the statements: two byte stores, the low byte first (R73). -/
theorem write16_wordStored (hm : s.memoryOk = true) (addr w : Word) : WordStored s (write16 s addr w) addr w := by
  have hm' : (write8 s addr (loByte w)).memoryOk = true := write8_memoryOk hm _ _
  obtain ⟨hlo, hother, hloc, hstorage, hbanks⟩ := write8_byteStored hm addr (loByte w)
  obtain ⟨hhi, hother', hloc', hstorage', hbanks'⟩ := write8_byteStored hm' (addr + 1) (hiByte w)
  refine ⟨fun h => ?_, fun h => ?_, fun other h h' => ?_, fun loc h h' => ?_, fun h h' => ?_, fun h h' => ?_⟩
  · have hout : Outside (write8 s addr (loByte w)) (addr + 1) addr := by
      have hhigh : 0x8000 ≤ addr.toNat := high_of_stores (plainRam_iff_stores.1 h)
      refine outside_next_of_plainRam ?_
      rw [plainRam_iff_stores, locate_of_sameMap _ (write8_sameMap s _ hhigh), ← plainRam_iff_stores]
      exact h
    exact (hother' addr hout).trans (hlo h)
  · refine hhi ?_
    have hhigh : 0x8000 ≤ (addr + 1).toNat := high_of_stores (plainRam_iff_stores.1 h)
    rw [plainRam_iff_stores, locate_write8_next hhigh, ← plainRam_iff_stores]
    exact h
  · exact (hother' other (outside_write8_next h h')).trans (hother other h)
  · exact (hloc' loc (untouched_write8_next h')).trans (hloc loc h)
  · obtain ⟨h1, h2, h3, h4, h5, h6, h7, h8⟩ := hstorage h
    obtain ⟨g1, g2, g3, g4, g5, g6, g7, g8⟩ := hstorage' h'
    exact ⟨g1.trans h1, g2.trans h2, g3.trans h3, g4.trans h4, g5.trans h5, g6.trans h6, g7.trans h7, g8.trans h8⟩
  · obtain ⟨h1, h2, h3, h4⟩ := hbanks h
    obtain ⟨g1, g2, g3, g4⟩ := hbanks' h'
    exact ⟨g1.trans h1, g2.trans h2, g3.trans h3, g4.trans h4⟩

theorem wordStored_withCpu {w : Word} (h : WordStored s t addr w) (u : State) : WordStored s (t.withCpu u) addr w := by
  obtain ⟨hlo, hhi, hother, hloc, hstorage, hbanks⟩ := h
  refine ⟨fun hp => ?_, fun hp => ?_, fun other h h' => ?_, fun loc h h' => ?_, hstorage, hbanks⟩
  · rw [read8_withCpu]; exact hlo hp
  · rw [read8_withCpu]; exact hhi hp
  · rw [read8_withCpu]; exact hother other h h'
  · rw [readLoc_withCpu]; exact hloc loc h h'

theorem write16_sameProcessor (s : State) (addr w : Word) : SameProcessor s (write16 s addr w) := by
  simp [SameProcessor]

end Regions

section BankArithmetic

theorem ramEnableValue_eq : ∀ v : Byte, ramEnableValue v = decide (v.toNat % 16 = 0xA) := by decide

theorem promoted_five_toNat : ∀ v : Byte, (promoted v 0x1F).toNat = max 1 (v.toNat % 32) := by decide

theorem promoted_four_toNat : ∀ v : Byte, (promoted v 0x0F).toNat = max 1 (v.toNat % 16) := by decide

theorem promoted_seven_toNat : ∀ v : Byte, (promoted v 0x7F).toNat = max 1 (v.toNat % 128) := by decide

/-- Two 9-bit values that share no bit position, one above the other: their OR is their sum. -/
theorem toNat_or_of_disjoint_nine {hi lo : BitVec 9} (j : Nat) (hhi : 2 ^ j ∣ hi.toNat) (hlo : lo.toNat < 2 ^ j) :
    (hi ||| lo).toNat = hi.toNat + lo.toNat := by
  obtain ⟨m, hm⟩ := hhi
  rw [BitVec.toNat_or, hm, Nat.two_pow_add_eq_or_of_lt hlo]

/-- MBC1, low five bits of the ROM bank replaced (R67). -/
theorem mbc1_low_bits_toNat (b : BitVec 9) (v : Byte) :
    ((b &&& 0x60) ||| promoted v 0x1F).toNat = b.toNat / 32 % 4 * 32 + max 1 (v.toNat % 32) := by
  have hkept : ∀ b : BitVec 9, (b &&& 0x60).toNat = b.toNat / 32 % 4 * 32 := by decide
  have hlow := promoted_five_toNat v
  rw [toNat_or_of_disjoint_nine 5 (by rw [hkept]; omega) (by omega), hkept, hlow]

/-- MBC1, bits 6 and 5 of the ROM bank replaced (R67). -/
theorem mbc1_high_bits_toNat (b : BitVec 9) (v : Byte) :
    ((b &&& (0x1F : BitVec 9)) ||| ((v &&& 3).setWidth 9 <<< 5)).toNat = v.toNat % 4 * 32 + b.toNat % 32 := by
  have hkept : ∀ b : BitVec 9, (b &&& 0x1F).toNat = b.toNat % 32 := by decide
  have hhigh : ∀ v : Byte, ((v &&& 3).setWidth 9 <<< 5 : BitVec 9).toNat = v.toNat % 4 * 32 := by decide
  rw [BitVec.or_comm, toNat_or_of_disjoint_nine 5 (by rw [hhigh]; omega) (by rw [hkept]; omega), hkept, hhigh]

theorem and_three_setWidth_toNat : ∀ v : Byte, ((v &&& 3).setWidth 4 : BitVec 4).toNat = v.toNat % 4 := by decide

theorem and_fifteen_setWidth_toNat : ∀ v : Byte, ((v &&& 0x0F).setWidth 4 : BitVec 4).toNat = v.toNat % 16 := by decide

theorem setWidth_nine_toNat : ∀ v : Byte, (v.setWidth 9 : BitVec 9).toNat = v.toNat := by decide

end BankArithmetic

section BankRegisters
variable {s : State} {n : Nat} {v : Byte}

/-! ### What each MBC does in each sub-range (R67, R68, R69) -/

theorem bankWrite_of_none (h : s.cart.mbc = .none) : bankWrite s n v = s := by
  simp [bankWrite, h]

theorem bankWrite_of_enable (h : s.cart.mbc ≠ .none) (hn : n < 0x2000) :
    bankWrite s n v = { s with ramEnable := decide (v.toNat % 16 = 0xA) } := by
  rw [← ramEnableValue_eq]
  cases hk : s.cart.mbc with
  | none => exact absurd hk h
  | _ => simp [bankWrite, hk, mbc1Write, mbc2Write, mbc3Write, mbc5Write, hn]

/-- The ROM bank that a write to 0x2000-0x3FFF selects. -/
def romBankWritten (s : State) (v : Byte) : BitVec 9 :=
  match s.cart.mbc with
  | .none => s.romBank
  | .mbc1 => (s.romBank &&& 0x60) ||| promoted v 0x1F
  | .mbc2 => promoted v 0x0F
  | .mbc3 => promoted v 0x7F
  | .mbc5 => v.setWidth 9

theorem bankWrite_of_romBank (h : 0x2000 ≤ n) (h' : n < 0x4000) : bankWrite s n v = { s with romBank := romBankWritten s v } := by
  have hn : ¬ n < 0x2000 := by omega
  cases hk : s.cart.mbc <;> simp [bankWrite, romBankWritten, hk, mbc1Write, mbc2Write, mbc3Write, mbc5Write, hn, h']

theorem bankWrite_of_mbc1_upper (hk : s.cart.mbc = .mbc1) (h : 0x4000 ≤ n) (h' : n < 0x6000) : bankWrite s n v =
    if s.bankingMode then { s with eramBank := (v &&& 3).setWidth 4 }
    else { s with romBank := (s.romBank &&& (0x1F : BitVec 9)) ||| ((v &&& 3).setWidth 9 <<< 5) } := by
  simp only [bankWrite, hk, mbc1Write]
  rw [if_neg (by omega), if_neg (by omega), if_pos h']

theorem bankWrite_of_mbc2_above (hk : s.cart.mbc = .mbc2) (h : 0x4000 ≤ n) : bankWrite s n v = s := by
  simp only [bankWrite, hk, mbc2Write]
  rw [if_neg (by omega), if_neg (by omega)]

theorem bankWrite_of_eramBank (hk : s.cart.mbc = .mbc3 ∨ s.cart.mbc = .mbc5) (h : 0x4000 ≤ n) (h' : n < 0x6000) :
    bankWrite s n v = { s with eramBank := (v &&& 0x0F).setWidth 4 } := by
  rcases hk with hk | hk <;> simp only [bankWrite, hk, mbc3Write, mbc5Write] <;>
    rw [if_neg (by omega), if_neg (by omega), if_pos h']

theorem bankWrite_of_mode (hk : s.cart.mbc = .mbc1) (h : 0x6000 ≤ n) :
    bankWrite s n v = { s with bankingMode := decide (v.toNat % 2 = 1) } := by
  have hbit : ∀ v : Byte, v.getLsbD 0 = decide (v.toNat % 2 = 1) := by decide
  simp only [bankWrite, hk, mbc1Write]
  rw [if_neg (by omega), if_neg (by omega), if_neg (by omega), hbit]

theorem bankWrite_of_no_mode (hk : s.cart.mbc ≠ .mbc1) (h : 0x6000 ≤ n) : bankWrite s n v = s := by
  cases hmbc : s.cart.mbc with
  | mbc1 => exact absurd hmbc hk
  | none => exact bankWrite_of_none hmbc
  | mbc2 => exact bankWrite_of_mbc2_above hmbc (by omega)
  | mbc3 =>
    simp only [bankWrite, hmbc, mbc3Write]
    rw [if_neg (by omega), if_neg (by omega), if_neg (by omega)]
  | mbc5 =>
    simp only [bankWrite, hmbc, mbc5Write]
    rw [if_neg (by omega), if_neg (by omega), if_neg (by omega)]

end BankRegisters

section Joypad

/-- A key row as the register shows it: all ones when it is not selected. -/
def keyRow (unselected : Bool) (keys : Byte) : Byte := if unselected then 0x0F else keys &&& 0x0F

theorem keyRow_getLsbD {k : Nat} (hk : k < 4) (unselected : Bool) (keys : Byte) :
    (keyRow unselected keys).getLsbD k = (unselected || keys.getLsbD k) := by
  have hones : (0x0F#8).getLsbD k = true := by interval_cases k <;> rfl
  cases unselected
  · simp [keyRow, hones]
  · simpa [keyRow] using hones

/-- The joypad register as a function of the selection byte and the two key rows (R406). -/
theorem joypadValue_eq (s : State) : joypadValue s =
    0xC0 ||| (Memory.read s.io 0x00 &&& 0x30) |||
      (keyRow ((Memory.read s.io 0x00).getLsbD 4) s.dpad &&& keyRow ((Memory.read s.io 0x00).getLsbD 5) s.buttons) := by
  simp [joypadValue, keyRow]

/-- The rows stay below bit 4. -/
theorem keyRow_getLsbD_high {k : Nat} (hk : 4 ≤ k) (unselected : Bool) (keys : Byte) :
    (keyRow unselected keys).getLsbD k = false := by
  have hzero : (0x0F#8).getLsbD k = false := by
    by_cases h8 : k < 8
    · interval_cases k <;> rfl
    · exact BitVec.getLsbD_of_ge _ _ (by omega)
  cases unselected
  · simp [keyRow, hzero]
  · simpa [keyRow] using hzero

theorem joypadValue_getLsbD_high {k : Nat} (hk : 4 ≤ k) (s : State) :
    (joypadValue s).getLsbD k = ((0xC0#8).getLsbD k || (Memory.read s.io 0x00).getLsbD k && (0x30#8).getLsbD k) := by
  simp [joypadValue_eq, keyRow_getLsbD_high hk]

theorem joypadValue_getLsbD_low {k : Nat} (hk : k < 4) (s : State) : (joypadValue s).getLsbD k =
    (((Memory.read s.io 0x00).getLsbD 4 || s.dpad.getLsbD k) && ((Memory.read s.io 0x00).getLsbD 5 || s.buttons.getLsbD k)) := by
  have hones : (0xC0#8).getLsbD k = false ∧ (0x30#8).getLsbD k = false := by interval_cases k <;> exact ⟨rfl, rfl⟩
  simp [joypadValue_eq, keyRow_getLsbD hk, hones]

end Joypad

section Dma
variable {s : State} {v : Byte}

theorem dmaCopy_sameMap (s : State) (v : Byte) (k : Nat) : SameMap s (dmaCopy v k s) := by
  obtain ⟨o, ho⟩ := dmaCopy_only_oam s v k
  rw [ho]
  exact ⟨rfl, rfl, rfl, rfl, rfl, rfl⟩

/-- The address that byte `k` of the copy is read from. -/
def dmaSource (v : Byte) (k : Nat) : Word := BitVec.ofNat 16 (v.toNat * 0x100 + k)

theorem dmaSource_toNat {k : Nat} (hk : k < 160) : (dmaSource v k).toNat = v.toNat * 0x100 + k := by
  have hv := v.isLt
  rw [dmaSource, BitVec.toNat_ofNat]
  omega

/-- The source of byte `k` may lie in OAM only at element `k` itself, which the copy has not reached yet. -/
theorem dmaSource_oam {j k : Nat} (hk : k < 160) (h : locate s (dmaSource v k) = .oam j) : j = k := by
  obtain ⟨hlow, hhigh, hj⟩ := locate_oam_range h
  rw [dmaSource_toNat hk] at hlow hhigh hj
  omega

/-- OAM in the middle of a copy: the elements copied so far hold their source bytes of before the copy, the others are as before. -/
theorem dmaCopy_oam_read (hwf : s.oam.wf = true) (hin : s.oam.within 160 = true) {k : Nat} (hk : k ≤ 160) (j : Nat) :
    Memory.read (dmaCopy v k s).oam j = if j < k then read8 s (dmaSource v j) else Memory.read s.oam j := by
  induction k generalizing j with
  | zero => rfl
  | succ k ih =>
    have hsource : read8 (dmaCopy v k s) (dmaSource v k) = read8 s (dmaSource v k) := by
      rw [read8, locate_of_sameMap _ (dmaCopy_sameMap s v k), read8]
      cases hloc : locate s (dmaSource v k) with
      | oam i =>
        obtain rfl := dmaSource_oam (by omega) hloc
        simpa [readLoc] using ih (by omega) i
      | _ => obtain ⟨o, ho⟩ := dmaCopy_only_oam s v k; rw [ho]; rfl
    obtain ⟨hwf', -⟩ := dmaCopy_oam_ok s v (k := k) (by omega) hwf hin
    have hstep : (dmaCopy v (k + 1) s).oam = Memory.write (dmaCopy v k s).oam k (read8 s (dmaSource v k)) := by
      rw [← hsource]; rfl
    rw [hstep]
    by_cases hjk : j = k
    · subst hjk
      rw [Memory.read_write_same hwf', if_pos (by omega)]
    · rw [Memory.read_write_other hwf' hjk, ih (by omega)]
      simp only [show j < k + 1 ↔ j < k by omega]

theorem write8_dma (s : State) (v : Byte) :
    write8 s 0xFF46 v = { dmaCopy v 160 s with ppuEpoch := (dmaCopy v 160 s).ppuEpoch + 1 } := rfl

theorem write8_dma_oam (s : State) (v : Byte) : (write8 s 0xFF46 v).oam = (dmaCopy v 160 s).oam := by
  rw [write8_dma]

/-- The copy disturbs OAM and the PPU's answers alone. -/
theorem not_disturbs_of_dma {addr : Word} (hoam : ¬ (0xFE00 ≤ addr.toNat ∧ addr.toNat ≤ 0xFE9F))
    (hppu : ¬ (0xFF40 ≤ addr.toNat ∧ addr.toNat ≤ 0xFF4B)) :
    locate s addr ≠ .ppu 0x46 ∧ ¬ (Loc.ppu 0x46).disturbs (locate s addr) := by
  cases hloc : locate s addr with
  | ppu k => have hrange := locate_ppu_range hloc; omega
  | oam k => have hrange := locate_oam_range hloc; omega
  | _ => exact ⟨Loc.noConfusion, id⟩

end Dma

/-- Settles O20: a byte store, and that the bus leaves the processor's part alone. -/
theorem writeThenRead : Obligations.WriteThenRead := by
  unfold Obligations.WriteThenRead
  exact fun s addr v hm => ⟨write8_byteStored hm addr v, write8_sameProcessor s addr v, write8_sp s addr v, write8_pc s addr v⟩

/-- Settles O21: both addresses lead to the same element of work RAM. -/
theorem echoForwards : Obligations.EchoForwards := by
  unfold Obligations.EchoForwards
  intro s addr v h h'
  have hlower : (addr - 0x2000).toNat = addr.toNat - 0x2000 := by bv_omega
  have hloc : locate s addr = locate s (addr - 0x2000) := by
    rw [locate_of_echo h h', locate_of_wramWindow (by omega) (by omega), hlower]
  rw [read8, hloc, write8_of_high (by omega), hloc, write8_of_high (by omega)]
  exact ⟨rfl, rfl⟩

/-- Settles O24: each region leads to the element that its routing gives. -/
theorem ramRegionsArePlainStorage : Obligations.RamRegionsArePlainStorage := by
  unfold Obligations.RamRegionsArePlainStorage
  intro s addr v
  refine ⟨fun h h' => ?_, fun h h' => ?_, fun h h' => ?_, fun h h' => ?_, fun h => ?_, ⟨rfl, rfl⟩, fun h h' => ?_⟩
  · exact access_of_locate h (locate_of_vramWindow h (by omega))
  · exact access_of_locate (by omega) ((locate_of_wramWindow h (by omega)).trans (if_pos (by omega)))
  · exact access_of_locate (by omega) ((locate_of_wramWindow (by omega) (by omega)).trans (if_neg (by omega)))
  · exact access_of_locate (by omega) (locate_of_oamWindow h (by omega))
  · exact access_of_locate (by omega) ((locate_of_ioPage (by omega) (by omega)).trans (ioLoc_of_array (by omega) (by omega)))
  · exact access_of_locate (by omega) (locate_of_hramWindow h (by omega))

/-- Settles O26: the register bit by bit; a key bit is 0 when one of its two rows shows 0. -/
theorem joypadRegisterReads : Obligations.JoypadRegisterReads := by
  unfold Obligations.JoypadRegisterReads
  intro s v
  have hread : read8 s 0xFF00 = joypadValue s := rfl
  rw [hread]
  refine ⟨?_, ?_, ?_, ?_, fun k hk => ?_, rfl⟩
  · rw [joypadValue_getLsbD_high (by omega)]; rfl
  · rw [joypadValue_getLsbD_high (by omega)]; rfl
  · rw [joypadValue_getLsbD_high (by omega)]; exact Bool.and_true _
  · rw [joypadValue_getLsbD_high (by omega)]; exact Bool.and_true _
  · rw [joypadValue_getLsbD_low hk, Bool.and_eq_false_iff, Bool.or_eq_false_iff, Bool.or_eq_false_iff]

/-- Settles O28: the write of each sub-range for each MBC kind, its value in plain arithmetic. -/
theorem bankRegisterRules : Obligations.BankRegisterRules := by
  unfold Obligations.BankRegisterRules
  rintro s addr v hlow t rfl
  rw [write8_of_low hlow]
  refine ⟨bankWrite_of_none, fun h hk => bankWrite_of_enable hk h, fun h h' hk => ?_, fun h h' => ?_, fun h => ?_⟩
  · rw [bankWrite_of_romBank h h', romBankWritten]
    refine ⟨rfl, fun hk => ?_, fun hk => ?_, fun hk => ?_, fun hk => ?_⟩ <;> simp only [hk]
    · exact mbc1_low_bits_toNat _ v
    · exact promoted_four_toNat v
    · exact promoted_seven_toNat v
    · exact setWidth_nine_toNat v
  · refine ⟨fun hk hmode => ?_, fun hk hmode => ?_, fun hk => bankWrite_of_mbc2_above hk h, fun hk => ?_⟩
    · rw [bankWrite_of_mbc1_upper hk h h', hmode]
      exact ⟨rfl, mbc1_high_bits_toNat _ v⟩
    · rw [bankWrite_of_mbc1_upper hk h h', hmode]
      exact ⟨rfl, and_three_setWidth_toNat v⟩
    · rw [bankWrite_of_eramBank hk h h']
      exact ⟨rfl, and_fifteen_setWidth_toNat v⟩
  · exact ⟨fun hk => bankWrite_of_mode hk h, fun hk => bankWrite_of_no_mode hk h⟩

/-- Settles O29: element k of OAM is byte k of the copy; an address outside OAM and the PPU registers is not disturbed by the write. -/
theorem oamDmaCopiesAPage : Obligations.OamDmaCopiesAPage := by
  unfold Obligations.OamDmaCopiesAPage
  intro s v hm
  obtain ⟨-, -, -, -, -, -, -, -, hwf, hin, -⟩ := (State.memoryOk_iff s).1 hm
  refine ⟨fun k hk => ?_, fun addr hoam hppu => ?_, ?_⟩
  · have haddr : (BitVec.ofNat 16 (0xFE00 + k)).toNat = 0xFE00 + k := by rw [BitVec.toNat_ofNat]; omega
    have hloc := locate_of_oamWindow (s := write8 s 0xFF46 v) (addr := BitVec.ofNat 16 (0xFE00 + k)) (by omega) (by omega)
    rw [haddr, Nat.add_sub_cancel_left] at hloc
    have hread := dmaCopy_oam_read (v := v) hwf hin (Nat.le_refl 160) k
    rw [if_pos hk] at hread
    rw [read8, hloc, readLoc, write8_dma_oam, hread, dmaSource]
  · have hloc : locate s 0xFF46 = .ppu 0x46 := by simp [locate, ioLoc]
    have hhigh : 0x8000 ≤ (0xFF46 : Word).toNat := by simp
    obtain ⟨hne, hd⟩ := not_disturbs_of_dma (s := s) hoam hppu
    exact read8_write8_other hm hhigh (by rw [hloc]; exact hne) (by rw [hloc]; exact hd)
  · obtain ⟨o, ho⟩ := dmaCopy_only_oam s v 160
    rw [write8_dma, ho]


end Sys2Proof.Machine
end

section
/-! The parts of a `Tick`: the environment's move, the promotion of `ime_pending` with the delay of EI, the interrupt check with its
dispatch (00_scope.md R5; 47_system.md R327; 60_exceptions.md R384-R390). -/

namespace Sys2Proof.Machine
open Sys2Proof.Stmt

section Environment
variable {s : State} {m : EnvMove} {k : Nat}

theorem deviceOwned_iff : deviceOwned k = true ↔ k < 0x80 ∧ k ≠ 0x00 ∧ k ≠ 0x0F := by
  simp [deviceOwned, and_assoc]

/-- The device bytes of a move leave the selection byte and IF alone (log 19). -/
theorem read_writeAll_deviceOwned {io : Memory} (h : io.wf = true) (hk : deviceOwned k = false) (cells : List Host.Cell) :
    Memory.read (Memory.writeAll io (cells.filter fun cell => deviceOwned cell.1)) k = Memory.read io k := by
  refine Memory.read_writeAll_other _ h fun cell hcell heq => ?_
  obtain ⟨-, howned⟩ := List.mem_filter.1 hcell
  rw [heq, hk] at howned
  cases howned

/-- A move raises bits of IF and clears none (R5 (a)). -/
theorem applyMove_ifByte (h : s.io.wf = true) : (applyMove m s).ifByte = s.ifByte ||| m.irq.zeroExtend 8 := by
  rw [State.ifByte, applyMove_io, Memory.read_write_same (Memory.writeAll_wf _ h), read_writeAll_deviceOwned h rfl, State.ifByte]

theorem applyMove_selection (h : s.io.wf = true) : Memory.read (applyMove m s).io 0x00 = Memory.read s.io 0x00 := by
  rw [applyMove_io, Memory.read_write_other (Memory.writeAll_wf _ h) (by decide), read_writeAll_deviceOwned h rfl]

theorem zeroExtend_irq_getLsbD (irq : BitVec 5) (hk : 5 ≤ k) : (irq.zeroExtend 8).getLsbD k = false := by
  rw [BitVec.getLsbD_setWidth, BitVec.getLsbD_of_ge irq k hk, Bool.and_false]

theorem envStep_of_nil (h : s.env = []) : envStep s = { s with ppuEpoch := s.ppuEpoch + 1 } := by
  simp [envStep, h]

theorem envStep_of_cons {rest : List EnvMove} (h : s.env = m :: rest) :
    envStep s = applyMove m { s with ppuEpoch := s.ppuEpoch + 1, env := rest } := by
  simp [envStep, h]

theorem applyMove_env (m : EnvMove) (s : State) : (applyMove m s).env = s.env := by
  obtain ⟨io, dp, bt, st, -, h⟩ := applyMove_only s m
  rw [h]

theorem envStep_env (s : State) : (envStep s).env = s.env.tail := by
  cases henv : s.env with
  | nil => rw [envStep_of_nil henv]; exact henv
  | cons m rest => rw [envStep_of_cons henv, applyMove_env]; rfl

theorem applyMove_ie (m : EnvMove) (s : State) : (applyMove m s).ie = s.ie := by
  obtain ⟨io, dp, bt, st, -, h⟩ := applyMove_only s m
  rw [h]

/-- The requests after the environment's move depend on the I/O array, IE and the move alone. -/
theorem envStep_pending_congr {t : State} (hio : t.io = s.io) (hie : t.ie = s.ie) (henv : t.env = s.env) :
    (envStep t).pending = (envStep s).pending := by
  cases hs : s.env with
  | nil =>
    rw [envStep_of_nil hs, envStep_of_nil (henv.trans hs)]
    simp only [State.pending, State.ifByte, hio, hie]
  | cons m rest =>
    rw [envStep_of_cons hs, envStep_of_cons (henv.trans hs)]
    simp only [State.pending, State.ifByte, applyMove_io, applyMove_ie, hio, hie]

end Environment

section Dispatch
variable {s : State} {addr other : Word} {i : Nat} {v : Byte}

/-- The enabled requests are under the mask of R384. -/
theorem pending_masked (s : State) : s.pending &&& 0x1F = s.pending := by
  rw [State.pending, BitVec.and_assoc, BitVec.and_self]

theorem locate_ifAddress (s : State) : locate s 0xFF0F = .io 0x0F := by simp [locate, ioLoc]

theorem locate_ne_of_ne_ifAddress (h : addr ≠ 0xFF0F) : locate s addr ≠ .io 0x0F := by
  intro hloc
  have hrange := locate_io_range hloc
  exact h (by bv_omega)

/-- IF written from inside the core is a data write to 0xFF0F (R63). -/
theorem setIf_eq_writeLoc (s : State) (v : Byte) : s.setIf v = writeLoc s (.io 0x0F) v := rfl

theorem read8_setIf_of_ne (hm : s.memoryOk = true) (h : addr ≠ 0xFF0F) : read8 (s.setIf v) addr = read8 s addr := by
  have hrange : (Loc.io 0x0F).inRange s := by simp [Loc.inRange]
  have hmap : locate (s.setIf v) addr = locate s addr := rfl
  rw [read8, hmap, setIf_eq_writeLoc]
  exact readLoc_writeLoc_other v hm hrange (locate_ne_of_ne_ifAddress h) (not_disturbs_of_stores rfl)

theorem ifByte_setIf (hm : s.memoryOk = true) (v : Byte) : (s.setIf v).ifByte = v := by
  obtain ⟨-, -, -, -, -, -, -, -, -, -, -, -, hio, -⟩ := (State.memoryOk_iff s).1 hm
  exact Memory.read_write_same hio

theorem ifByte_eq_read8 (s : State) : s.ifByte = read8 s 0xFF0F := by
  rw [read8, locate_ifAddress]; rfl

/-- A store to any other address does not reach IF. -/
theorem outside_ifAddress (h : addr ≠ 0xFF0F) : Outside s addr 0xFF0F := by
  unfold Outside
  rw [locate_ifAddress]
  split
  · simp
  · refine apart_iff.2 ⟨(locate_ne_of_ne_ifAddress h).symm, ?_⟩
    cases locate s addr <;> simp [Loc.disturbs]

/-- Interrupt entry is a `write16` of PC below SP, after the served request is cleared; the rest is the processor's part (R387). -/
theorem takeInterrupt_eq_write16 (i : Nat) (s : State) : takeInterrupt i s =
    (write16 (s.setIf (s.ifByte &&& ~~~((1#8) <<< i))) (s.sp - 2) s.pc).withCpu { s with
      sp := s.sp - 2, pc := vectorOf i, ime := false, halted := false, cycles := s.cycles + s.params.intDispatchCycles } := by
  have hack : acknowledged i s =
      (s.setIf (s.ifByte &&& ~~~((1#8) <<< i))).withCpu { s with ime := false, halted := false } := rfl
  have hsp : (acknowledged i s).sp = s.sp := rfl
  rw [takeInterrupt_eq, push16_eq, hsp, hack, write16_withCpu]
  rfl

/-- The same as an update of the state that `write16` leaves. -/
theorem takeInterrupt_eq_update (i : Nat) (s : State) : takeInterrupt i s =
    { write16 (s.setIf (s.ifByte &&& ~~~((1#8) <<< i))) (s.sp - 2) s.pc with
      sp := s.sp - 2, pc := vectorOf i, ime := false, halted := false, cycles := s.cycles + s.params.intDispatchCycles } := by
  conv_rhs => rw [← write16_keeps_cpu]
  exact takeInterrupt_eq_write16 i s

/-- What interrupt entry does to memory: it stores PC, with the served request already cleared. -/
theorem takeInterrupt_wordStored (hm : s.memoryOk = true) (i : Nat) :
    WordStored (s.setIf (s.ifByte &&& ~~~((1#8) <<< i))) (takeInterrupt i s) (s.sp - 2) s.pc := by
  rw [takeInterrupt_eq_write16]
  exact wordStored_withCpu (write16_wordStored (setIf_memoryOk hm _) _ _) _

theorem takeInterrupt_sameProcessor (i : Nat) (s : State) :
    SameProcessor s { takeInterrupt i s with ime := s.ime, halted := s.halted, cycles := s.cycles } := by
  simp [SameProcessor]

end Dispatch

section Promotion
variable {s : State} {n : Nat}

theorem envStep_control (s : State) : (envStep s).imePending = s.imePending ∧ (envStep s).ime = s.ime ∧
    (envStep s).cycles = s.cycles ∧ (envStep s).pc = s.pc ∧ (envStep s).sp = s.sp := by
  obtain ⟨io, dp, bt, st, en, -, h⟩ := envStep_only s
  rw [h]
  exact ⟨rfl, rfl, rfl, rfl, rfl⟩

/-- A `Tick` with a captured and still pending enable checks with IME set (R388). -/
theorem tick_of_pending {p : Bool} (hp : p = true) (h : s.imePending = true) : tick n p s =
    checkInterrupt { envStep { s with cycles := s.cycles + n } with ime := true, imePending := false } := by
  obtain ⟨hpend, -⟩ := envStep_control { s with cycles := s.cycles + n }
  rw [tick, promote, if_pos (by rw [hp, hpend, Bool.true_and]; exact h)]

/-- Any other `Tick` checks the state that the environment leaves. -/
theorem tick_of_not_pending {p : Bool} (h : ¬ (p = true ∧ s.imePending = true)) :
    tick n p s = checkInterrupt (envStep { s with cycles := s.cycles + n }) := by
  obtain ⟨hpend, -⟩ := envStep_control { s with cycles := s.cycles + n }
  rw [tick, promote, if_neg (by rw [hpend, Bool.and_eq_true]; exact h)]

theorem checkInterrupt_of_ime_false (h : s.ime = false) : checkInterrupt s = s := by
  simp [checkInterrupt, h]

theorem checkInterrupt_of_pending_zero (h : s.pending = 0) : checkInterrupt s = s := by
  simp [checkInterrupt, h]

theorem checkInterrupt_of_pending (h : s.ime = true) (h' : s.pending ≠ 0) :
    checkInterrupt s = takeInterrupt (highestPriority s.pending) s := by
  exact if_pos (by rw [h, decide_eq_true h', Bool.and_true])

/-- A `Tick` that captured no pending enable leaves IME 0 alone, and with it everything a dispatch would change (R388). -/
theorem tick_of_not_captured (h : s.ime = false) : (tick n false s).pc = s.pc ∧ (tick n false s).ime = false ∧
    (tick n false s).imePending = s.imePending ∧ (tick n false s).sp = s.sp := by
  obtain ⟨hpend, hime, -, hpc, hsp⟩ := envStep_control { s with cycles := s.cycles + n }
  rw [tick_of_not_pending (by simp), checkInterrupt_of_ime_false (hime.trans h)]
  exact ⟨hpc, hime.trans h, hpend, hsp⟩

/-- A `Tick` that captured a pending enable takes the request that is then enabled; without one it ends with IME 1 (R388, R390). -/
theorem tick_of_captured (h : s.imePending = true) : (tick n true s).imePending = false ∧
    ((envStep s).pending ≠ 0 → (tick n true s).ime = false ∧ (tick n true s).sp = s.sp - 2 ∧
      ∃ k < 5, (tick n true s).pc.toNat = 0x40 + 8 * k) ∧
    ((envStep s).pending = 0 → (tick n true s).ime = true ∧ (tick n true s).sp = s.sp ∧ (tick n true s).pc = s.pc) := by
  have hreq : (envStep { s with cycles := s.cycles + n }).pending = (envStep s).pending := envStep_pending_congr rfl rfl rfl
  obtain ⟨-, -, -, hpc, hsp⟩ := envStep_control { s with cycles := s.cycles + n }
  rw [tick_of_pending rfl h]
  generalize envStep { s with cycles := s.cycles + n } = e at hreq hpc hsp ⊢
  have hpromoted : ({ e with ime := true, imePending := false } : State).pending = (envStep s).pending := hreq
  by_cases hzero : (envStep s).pending = 0
  · rw [checkInterrupt_of_pending_zero (hpromoted.trans hzero)]
    exact ⟨rfl, fun hne => absurd hzero hne, fun _ => ⟨rfl, hsp, hpc⟩⟩
  · rw [checkInterrupt_of_pending rfl (by rw [hpromoted]; exact hzero), takeInterrupt_imePending, takeInterrupt_ime,
      takeInterrupt_sp]
    exact ⟨rfl, fun _ => ⟨rfl, congrArg (· - 2) hsp, takeInterrupt_pc_vector _ _⟩, fun h => absurd h hzero⟩

/-- A one-byte instruction at PC is fetched: it fits wherever PC is. -/
theorem fetch_of_read8 {i : Instr} {op : Byte} (hwf : i.wellFormed = true) (henc : encode i = [op]) (h : read8 s s.pc = op) :
    fetch s = .ok i := by
  have hlen : i.form.length = 1 := by rw [← encodeForm_length i.form]; exact congrArg List.length henc
  have hpc := s.pc.isLt
  refine fetch_of_encodedAtPc hwf (by omega) fun k hk => ?_
  obtain rfl : k = 0 := by omega
  rw [henc, BitVec.add_zero, h]
  rfl

end Promotion

/-- Settles O31: `takeInterrupt` of the lowest request; it clears the request, stores PC and touches no other byte. -/
theorem interruptCheckDispatchesOne : Obligations.InterruptCheckDispatchesOne := by
  unfold Obligations.InterruptCheckDispatchesOne
  intro s hm
  refine ⟨fun h => ?_, fun hime hpend => ?_⟩
  · rcases checkInterrupt_cases s with ⟨-, hsame⟩ | ⟨hime, hpend, -⟩
    · exact hsame
    · exact absurd ⟨hime, hpend⟩ h
  have hmask : s.pending &&& 0x1F ≠ 0 := by rwa [pending_masked]
  have hnext : s.sp - 2 + 1 = s.sp - 1 := by bv_omega
  refine ⟨highestPriority s.pending, highestPriority_lt _, getLsbD_highestPriority hmask,
    fun j hj => getLsbD_of_lt_highestPriority hj, ?_⟩
  rintro t rfl
  rw [checkInterrupt_of_pending hime hpend]
  generalize hi : highestPriority s.pending = i
  have hlt : i < 5 := hi ▸ highestPriority_lt _
  obtain ⟨hlo, hhi, hother, -, -, -⟩ := takeInterrupt_wordStored hm i
  rw [hnext] at hhi hother
  refine ⟨by rw [takeInterrupt_pc, vectorOf_toNat hlt], takeInterrupt_sp s i, takeInterrupt_ime s i, takeInterrupt_halted s i,
    takeInterrupt_cycles s i, takeInterrupt_imePending s i, takeInterrupt_sameProcessor i s, hlo, hhi,
    fun other hne h h' => ?_, fun hne hne' => ?_, ?_⟩
  · rw [hother other h h', read8_setIf_of_ne hm hne]
  · rw [ifByte_eq_read8, hother _ (outside_ifAddress hne) (outside_ifAddress hne'), ← ifByte_eq_read8, ifByte_setIf hm]
  · rw [takeInterrupt_pc, takeInterrupt_cycles]
    exact takeInterrupt_eq_update i s

/-- Settles O33: the two kinds of `Tick`, by whether a captured enable is still pending after the environment's move. -/
theorem tickPromotesOnlyACapturedPending : Obligations.TickPromotesOnlyACapturedPending := by
  unfold Obligations.TickPromotesOnlyACapturedPending
  rintro s n p e rfl
  obtain ⟨hpend, hime, hcycles, -, -⟩ := envStep_control { s with cycles := s.cycles + n }
  exact ⟨hpend, hime, hcycles, tick_of_pending, tick_of_not_pending⟩

/-- Settles O34: the `Tick` of EI captured no pending enable, so it checks with IME 0; the `Tick` of the next instruction promotes. -/
theorem eiTakesEffectAfterTheNextInstruction : Obligations.EiTakesEffectAfterTheNextInstruction := by
  unfold Obligations.EiTakesEffectAfterTheNextInstruction
  intro s hs hime _
  refine ⟨fun hpend hop => ?_, fun hpend hop => ?_⟩
  · obtain ⟨hpc, hime', hpend', hsp⟩ := tick_of_not_captured (n := 4) (s := { s.advance 1 with imePending := true }) hime
    refine ⟨_, ?_, hpc, hime', hpend', hsp⟩
    rw [step_of_fetch hs (fetch_of_read8 (i := .ei) rfl rfl hop), ← hpend]
    rfl
  · obtain ⟨hpend', htaken, hnone⟩ := tick_of_captured (n := 4) (s := s.advance 1) hpend
    have hreq : (envStep (s.advance 1)).pending = (envStep s).pending := envStep_pending_congr rfl rfl rfl
    rw [hreq] at htaken hnone
    refine ⟨_, ?_, hpend', htaken, hnone⟩
    rw [step_of_fetch hs (fetch_of_read8 (i := .nop) rfl rfl hop), ← hpend]
    rfl

/-- Settles O35: the frame of a move, and the I/O array it leaves. -/
theorem environmentMoveIsConfined : Obligations.EnvironmentMoveIsConfined := by
  unfold Obligations.EnvironmentMoveIsConfined
  rintro s t hm rfl
  obtain ⟨-, -, -, -, -, -, -, -, -, -, -, -, hio, -⟩ := (State.memoryOk_iff s).1 hm
  have hframe : envStep s = { s with
      io := (envStep s).io, dpad := (envStep s).dpad, buttons := (envStep s).buttons, stopped := (envStep s).stopped,
      env := (envStep s).env, ppuEpoch := s.ppuEpoch + 1 } ∧
      (s.stopped = true → (envStep s).stopped = true) := by
    obtain ⟨io, dp, bt, st, en, hst, h⟩ := envStep_only s
    rw [h]
    exact ⟨rfl, hst⟩
  have hbytes : Memory.read (envStep s).io 0x00 = Memory.read s.io 0x00 ∧
      ∃ irq : BitVec 5, (envStep s).ifByte = s.ifByte ||| irq.zeroExtend 8 := by
    cases henv : s.env with
    | nil => rw [envStep_of_nil henv]; exact ⟨rfl, 0, (BitVec.or_zero).symm⟩
    | cons m rest => rw [envStep_of_cons henv]; exact ⟨applyMove_selection hio, m.irq, applyMove_ifByte hio⟩
  obtain ⟨hselection, irq, hif⟩ := hbytes
  refine ⟨hframe.1, hframe.2, hselection, fun k _ hk => ?_, fun k hk => ?_, envStep_env s⟩
  · rw [hif, BitVec.getLsbD_or, hk, Bool.true_or]
  · rw [hif, BitVec.getLsbD_or, zeroExtend_irq_getLsbD irq hk, Bool.or_false]

end Sys2Proof.Machine
end

section
/-! The loop of HALT: the states it waits in, the turn that ends it, and the fuse (47_system.md R322, R323; 70_reset_and_hazards.md R442). -/

namespace Sys2Proof.Machine
open Sys2Proof.Stmt

section Waiting
variable {s e : State} {n k : Nat} {p : Bool}

/-- A turn of the loop that finds no request ends in the next state of the wait. -/
theorem waiting_succ (s : State) (k : Nat) : waiting s (k + 1) = beforeCheck s.params.haltTickQuantum s.imePending (waiting s k) := rfl

theorem waiting_halted (s : State) (k : Nat) : (waiting s k).halted = true := by
  induction k with
  | zero => rfl
  | succ k ih => rw [waiting_succ, beforeCheck_halted, ih]

theorem waiting_params (s : State) (k : Nat) : (waiting s k).params = s.params := by
  induction k with
  | zero => rfl
  | succ k ih => rw [waiting_succ, (beforeCheck_sameCore _ _ _).params, ih]

theorem waiting_cycles (s : State) (k : Nat) : (waiting s k).cycles = s.cycles + k * s.params.haltTickQuantum := by
  induction k with
  | zero => rw [Nat.zero_mul]; rfl
  | succ k ih => rw [waiting_succ, beforeCheck_cycles, ih, Nat.succ_mul, Nat.add_assoc]

/-- The first `Tick` of the wait promotes an enable that was pending at the step's start (R388). -/
theorem hasWaited_first (s : State) (n : Nat) : HasWaited s (beforeCheck n s.imePending (waiting s 0)) := by
  obtain ⟨io, dp, bt, st, en, -, h⟩ := envStep_only { waiting s 0 with cycles := (waiting s 0).cycles + n }
  rw [beforeCheck, h, waiting_zero]
  cases hp : s.imePending
  · simp [HasWaited, promote, hp]
  · simp [HasWaited, promote, hp]

/-- A later `Tick` finds no enable pending. -/
theorem hasWaited_next (h : HasWaited s e) (n : Nat) (p : Bool) : HasWaited s (beforeCheck n p e) := by
  obtain ⟨io, dp, bt, st, en, -, henv⟩ := envStep_only { e with cycles := e.cycles + n }
  have hpend : e.imePending = false := by rw [h]
  have hframe := congrArg (fun u : State => { u with
    io := io, dpad := dp, buttons := bt, stopped := st, env := en, ppuEpoch := e.ppuEpoch + 1, cycles := e.cycles + n }) h
  rw [beforeCheck, henv, promote, if_neg (by simp [hpend])]
  exact hframe

theorem hasWaited_waiting (s : State) (k : Nat) : HasWaited s (waiting s (k + 1)) := by
  induction k with
  | zero => exact hasWaited_first s _
  | succ k ih => exact hasWaited_next ih _ _

theorem hasWaited_with_halted (h : HasWaited s e) (b : Bool) : HasWaited s { e with halted := b } := by
  have hframe := congrArg (fun u : State => { u with halted := b }) h
  exact hframe

theorem hasWaited_fields (h : HasWaited s e) : e.pc = s.pc + 1 ∧ e.sp = s.sp ∧ e.ie = s.ie ∧
    e.vram = s.vram ∧ e.eram = s.eram ∧ e.wram = s.wram ∧ e.oam = s.oam ∧ e.hram = s.hram := by
  rw [h]
  exact ⟨rfl, rfl, rfl, rfl, rfl, rfl, rfl, rfl⟩

theorem with_halted_self (h : s.halted = false) : { s with halted := false } = s := by
  rw [← h]

end Waiting

section Loop
variable {s : State} {k : Nat}

/-- While no `Tick` finds a request and the fuse is not reached, the loop is in the wait. -/
theorem haltLoop_waits (hquiet : ∀ j, 1 ≤ j → j ≤ k → (waiting s j).pending = 0)
    (hfuse : k * s.params.haltTickQuantum < Config.haltFuseCycles) (fuel : Nat) :
    haltLoop s.imePending (k + fuel) 0 (waiting s 0) =
      haltLoop s.imePending fuel (k * s.params.haltTickQuantum) (waiting s k) := by
  induction k generalizing fuel with
  | zero => rw [Nat.zero_add, Nat.zero_mul]
  | succ k ih =>
    rw [Nat.succ_mul] at hfuse
    have hturn := haltLoop_turn (s := waiting s k) (p := s.imePending) (elapsed := k * s.params.haltTickQuantum) fuel
      (waiting_halted s k)
    rw [waiting_params, ← waiting_succ] at hturn
    rw [show k + 1 + fuel = k + (fuel + 1) by omega, ih (fun j h h' => hquiet j h (by omega)) (by omega),
      hturn (hquiet (k + 1) (by omega) (by omega)) hfuse, Nat.succ_mul]

/-- The `Tick` that finds a request ends the loop. -/
theorem haltLoop_waiting_wake (fuel elapsed : Nat) (h : (waiting s (k + 1)).pending ≠ 0) :
    haltLoop s.imePending (fuel + 1) elapsed (waiting s k) = { checkInterrupt (waiting s (k + 1)) with halted := false } := by
  have hwake := haltLoop_wake (s := waiting s k) (p := s.imePending) fuel elapsed
  rw [waiting_params, ← waiting_succ] at hwake
  exact hwake h

/-- The `Tick` that reaches the fuse ends the loop. -/
theorem haltLoop_waiting_fuse (fuel : Nat) {elapsed : Nat} (h : (waiting s (k + 1)).pending = 0)
    (hfuse : Config.haltFuseCycles ≤ elapsed + s.params.haltTickQuantum) :
    haltLoop s.imePending (fuel + 1) elapsed (waiting s k) = { waiting s (k + 1) with halted := false } := by
  have htick : tick s.params.haltTickQuantum s.imePending (waiting s k) = waiting s (k + 1) := by
    rw [tick_eq, ← waiting_succ, checkInterrupt_of_pending_zero h]
  rw [haltLoop]
  simp only [waiting_params, htick]
  exact if_pos (by rw [decide_eq_true hfuse, Bool.or_true])

theorem haltLoop_waiting_turn (fuel : Nat) {elapsed : Nat} (h : (waiting s (k + 1)).pending = 0)
    (hfuse : elapsed + s.params.haltTickQuantum < Config.haltFuseCycles) :
    haltLoop s.imePending (fuel + 1) elapsed (waiting s k) =
      haltLoop s.imePending fuel (elapsed + s.params.haltTickQuantum) (waiting s (k + 1)) := by
  have hturn := haltLoop_turn (s := waiting s k) (p := s.imePending) (elapsed := elapsed) fuel (waiting_halted s k)
  rw [waiting_params, ← waiting_succ] at hturn
  exact hturn h hfuse

/-- The loop ended in state `t`: it has only waited, or it was woken into an interrupt. -/
def HaltEnds (s t : State) : Prop :=
  ∃ e, HasWaited s e ∧ (t = { e with halted := false } ∨
    (e.ime = true ∧ e.pending ≠ 0 ∧ t = takeInterrupt (highestPriority e.pending) e))

theorem haltEnds_check (h : HasWaited s e) : HaltEnds s { checkInterrupt e with halted := false } := by
  refine ⟨e, h, ?_⟩
  rcases checkInterrupt_cases e with ⟨-, hc⟩ | ⟨hime, hpend, hc⟩
  · exact .inl (by rw [hc])
  · exact .inr ⟨hime, hpend, by rw [hc]; exact with_halted_self (takeInterrupt_halted _ _)⟩

/-- One turn of the loop: it ends the loop, or the wait goes on. -/
theorem haltLoop_waiting_cases (s : State) (fuel k elapsed : Nat) :
    HaltEnds s (haltLoop s.imePending (fuel + 1) elapsed (waiting s k)) ∨
    haltLoop s.imePending (fuel + 1) elapsed (waiting s k) =
      haltLoop s.imePending fuel (elapsed + s.params.haltTickQuantum) (waiting s (k + 1)) := by
  by_cases hpend : (waiting s (k + 1)).pending = 0
  · by_cases hfuse : elapsed + s.params.haltTickQuantum < Config.haltFuseCycles
    · exact .inr (haltLoop_waiting_turn _ hpend hfuse)
    · rw [haltLoop_waiting_fuse _ hpend (Nat.not_lt.1 hfuse)]
      exact .inl ⟨_, hasWaited_waiting s k, .inl rfl⟩
  · rw [haltLoop_waiting_wake _ _ hpend]
    exact .inl (haltEnds_check (hasWaited_waiting s k))

theorem haltLoop_ends (s : State) (fuel k elapsed : Nat) :
    HaltEnds s (haltLoop s.imePending fuel elapsed (waiting s (k + 1))) := by
  induction fuel generalizing k elapsed with
  | zero => exact ⟨_, hasWaited_waiting s k, .inl rfl⟩
  | succ fuel ih =>
    rcases haltLoop_waiting_cases s fuel (k + 1) elapsed with h | h
    · exact h
    · rw [h]; exact ih _ _

theorem exec_halt_eq (s : State) : exec .halt s = .next (haltLoop s.imePending Config.haltFuseCycles 0 (waiting s 0)) :=
  exec_of_form_halt (i := .halt) rfl

theorem exec_halt_ends (s : State) : ∃ t, exec .halt s = .next t ∧ t.halted = false ∧ SameCore s t ∧ HaltEnds s t := by
  have hstart : SameCore s (waiting s 0) := by constructor <;> rfl
  refine ⟨_, exec_halt_eq s, haltLoop_halted _ _ _ _, hstart.trans (haltLoop_sameCore _ _ _ _), ?_⟩
  obtain ⟨fuel, hfuel⟩ : ∃ fuel, Config.haltFuseCycles = fuel + 1 := ⟨70223, rfl⟩
  rw [hfuel]
  rcases haltLoop_waiting_cases s fuel 0 0 with h | h
  · exact h
  · rw [h]; exact haltLoop_ends s _ _ _

/-- No request is pending when IE enables no source. -/
theorem pending_of_ie {e : State} (h : e.ie &&& 0x1F = 0) : e.pending = 0 := by
  rw [State.pending, BitVec.and_assoc, h]
  exact BitVec.and_zero

theorem waiting_pending_of_ie (h : s.ie &&& 0x1F = 0) (k : Nat) : (waiting s (k + 1)).pending = 0 := by
  obtain ⟨-, -, hie, -⟩ := hasWaited_fields (hasWaited_waiting s k)
  exact pending_of_ie (by rw [hie, h])

/-- With no request the loop of HALT is the wait up to the turn that reaches the fuse. -/
theorem exec_halt_of_no_request (hie : s.ie &&& 0x1F = 0) {k : Nat} (hq : 1 ≤ s.params.haltTickQuantum)
    (hbelow : k * s.params.haltTickQuantum < 70224) (hreach : 70224 ≤ (k + 1) * s.params.haltTickQuantum) :
    exec .halt s = .next { waiting s (k + 1) with halted := false } := by
  have hk : k < 70224 := lt_of_le_of_lt (Nat.le_mul_of_pos_right k hq) hbelow
  have hfuse : Config.haltFuseCycles = 70224 := rfl
  obtain ⟨fuel, hfuel⟩ : ∃ fuel, Config.haltFuseCycles = k + (fuel + 1) := ⟨70223 - k, by omega⟩
  have hquiet : ∀ j, 1 ≤ j → j ≤ k → (waiting s j).pending = 0 := by
    rintro (_ | j) hj -
    · omega
    · exact waiting_pending_of_ie hie j
  rw [Nat.succ_mul] at hreach
  rw [exec_halt_eq, hfuel, haltLoop_waits hquiet (by omega), haltLoop_waiting_fuse _ (waiting_pending_of_ie hie k) (by omega)]

end Loop

/-- Settles O36: every turn ends the loop or goes on with the wait, and the loop has finitely many turns. -/
theorem haltCompletes : Obligations.HaltCompletes := by
  unfold Obligations.HaltCompletes
  intro s
  obtain ⟨t, hexec, hhalted, hcore, e, hwait, hend⟩ := exec_halt_ends s
  refine ⟨t, hexec, hhalted, ⟨hcore.a, hcore.b, hcore.c, hcore.d, hcore.e, hcore.h, hcore.l, hcore.f⟩, hcore.sameBoard, ?_⟩
  rcases hend with rfl | ⟨hime, hpend, rfl⟩
  · exact .inl (hasWaited_with_halted hwait false)
  · obtain ⟨-, hsp, -⟩ := hasWaited_fields hwait
    exact .inr ⟨by rw [takeInterrupt_sp, hsp], takeInterrupt_ime _ _, takeInterrupt_pc_vector _ _, e, hwait, hime, hpend, rfl⟩

/-- Settles O37: the loop ends at the first multiple of the quantum that is not below the fuse. -/
theorem haltFuseBoundsTheWait : Obligations.HaltFuseBoundsTheWait := by
  unfold Obligations.HaltFuseBoundsTheWait
  intro s hie hq
  have hbelow : 70223 / s.params.haltTickQuantum * s.params.haltTickQuantum < 70224 :=
    Nat.lt_succ_of_le (Nat.div_mul_le_self _ _)
  have hreach : 70224 ≤ (70223 / s.params.haltTickQuantum + 1) * s.params.haltTickQuantum := by
    rw [Nat.mul_comm]; exact Nat.lt_mul_div_succ _ hq
  generalize 70223 / s.params.haltTickQuantum = k at hbelow hreach
  obtain ⟨hpc, hsp, hie', hvram, heram, hwram, hoam, hhram⟩ := hasWaited_fields (hasWaited_waiting s k)
  have hcycles := waiting_cycles s (k + 1)
  refine ⟨_, exec_halt_of_no_request hie hq hbelow hreach, rfl, hpc, hsp, hie', ⟨hvram, heram, hwram, hoam, hhram⟩, ?_⟩
  show _ ≤ (waiting s (k + 1)).cycles ∧ (waiting s (k + 1)).cycles < _ ∧ (_ → (waiting s (k + 1)).cycles = _)
  rw [hcycles]
  refine ⟨by omega, by rw [Nat.succ_mul]; omega, ?_⟩
  rintro ⟨c, hc⟩
  rw [Nat.mul_comm] at hc
  have hlow : k < c := Nat.lt_of_mul_lt_mul_right (hc ▸ hbelow)
  have hhigh : c ≤ k + 1 := Nat.le_of_mul_le_mul_right (hc ▸ hreach) hq
  rw [show k + 1 = c by omega, ← hc]

/-- Settles O38: the wait up to the Tick that finds the request, then the check of that Tick. -/
theorem haltWakesOnAPendingRequest : Obligations.HaltWakesOnAPendingRequest := by
  unfold Obligations.HaltWakesOnAPendingRequest
  rintro s k hq hfuse hquiet e rfl hpend
  have hk : k < 70224 := lt_of_le_of_lt (Nat.le_mul_of_pos_right k hq) hfuse
  have hfuseEq : Config.haltFuseCycles = 70224 := rfl
  obtain ⟨fuel, hfuel⟩ : ∃ fuel, Config.haltFuseCycles = k + (fuel + 1) := ⟨70223 - k, by omega⟩
  have hexec : exec .halt s = .next { checkInterrupt (waiting s (k + 1)) with halted := false } := by
    rw [exec_halt_eq, hfuel, haltLoop_waits hquiet (by omega), haltLoop_waiting_wake _ _ hpend]
  have hwait := hasWaited_waiting s k
  obtain ⟨-, hsp, -⟩ := hasWaited_fields hwait
  refine ⟨hwait, waiting_cycles s (k + 1), fun hime => ?_, fun hime => ⟨?_, takeInterrupt_halted _ _, ?_⟩⟩
  · rw [hexec, checkInterrupt_of_ime_false hime]
  · rw [hexec, checkInterrupt_of_pending hime hpend, with_halted_self (takeInterrupt_halted _ _)]
  · rw [takeInterrupt_sp, hsp]


end Sys2Proof.Machine
end

section
/-! What the record says of an instruction and what the instruction does: where PC goes, what becomes of the flags and of the control
bits (30_encoding.md R116-R120; 10_state.md sections 2 and 4). -/

namespace Sys2Proof.Machine
open Sys2Proof.Stmt

section PairWrites
variable (s : State) (w : Word)

@[simp] theorem writeRp_f (x : Rp) : (writeRp s x w).f = s.f := by cases x <;> rfl
@[simp] theorem writeRp_pc (x : Rp) : (writeRp s x w).pc = s.pc := by cases x <;> rfl
@[simp] theorem writeRp_ime (x : Rp) : (writeRp s x w).ime = s.ime := by cases x <;> rfl
@[simp] theorem writeRp_imePending (x : Rp) : (writeRp s x w).imePending = s.imePending := by cases x <;> rfl
@[simp] theorem writeRp_halted (x : Rp) : (writeRp s x w).halted = s.halted := by cases x <;> rfl
@[simp] theorem writeRp_stopped (x : Rp) : (writeRp s x w).stopped = s.stopped := by cases x <;> rfl
@[simp] theorem writeRp2_sp (x : Rp2) : (writeRp2 s x w).sp = s.sp := by cases x <;> rfl
@[simp] theorem writeRp2_pc (x : Rp2) : (writeRp2 s x w).pc = s.pc := by cases x <;> rfl
@[simp] theorem writeRp2_ime (x : Rp2) : (writeRp2 s x w).ime = s.ime := by cases x <;> rfl
@[simp] theorem writeRp2_imePending (x : Rp2) : (writeRp2 s x w).imePending = s.imePending := by cases x <;> rfl
@[simp] theorem writeRp2_halted (x : Rp2) : (writeRp2 s x w).halted = s.halted := by cases x <;> rfl
@[simp] theorem writeRp2_stopped (x : Rp2) : (writeRp2 s x w).stopped = s.stopped := by cases x <;> rfl

end PairWrites

section ControlFlow
variable {s t : State} {f : Form}

theorem aluMeaning_pc {op : AluOp} {v : Byte} {n : Nat} (h : aluMeaning op v n s = .next t) : t.pc = s.pc + BitVec.ofNat 16 n := by
  cases op <;> cases h <;> rfl

theorem cbMeaning_pc {op : CbForm} (h : cbMeaning op s = .next t) : t.pc = s.pc + 2 := by
  rcases op with ⟨op, x⟩ | ⟨n, x⟩ | ⟨n, x⟩ | ⟨n, x⟩ <;> cases h <;> simp

/-- An instruction of the fallthrough kind ends at the next address (R118). -/
theorem pc_of_fallthrough (h : formMeaning f s = .next t) (hf : f.successor = .fallthrough) :
    t.pc = s.pc + BitVec.ofNat 16 f.length := by
  cases f with
  | alu op x => exact aluMeaning_pc h
  | aluImm op d8 => exact aluMeaning_pc h
  | cb op => exact cbMeaning_pc h
  | jp | jpCc | jpHl | jr | jrCc | call | callCc | ret | retCc | reti | rst | halt | stop | invalid => cases hf
  | _ => cases h; simp [Form.length]

/-- The end of HALT: at the next address, or in a handler (R323). -/
theorem HaltEnds.pc (h : HaltEnds s t) : t.pc = s.pc + 1 ∨ ∃ k < 5, t.pc.toNat = 0x40 + 8 * k := by
  obtain ⟨e, hwait, rfl | ⟨-, -, rfl⟩⟩ := h
  · obtain ⟨hpc, -⟩ := hasWaited_fields hwait
    exact .inl hpc
  · exact .inr (takeInterrupt_pc_vector _ _)

theorem formMeaning_halt_ends (h : formMeaning .halt s = .next t) : SameCore s t ∧ HaltEnds s t := by
  obtain ⟨u, hu, -, hcore, hends⟩ := exec_halt_ends s
  rw [exec_eq_formMeaning] at hu
  obtain rfl : u = t := Host.Outcome.next.inj (hu.symm.trans h)
  exact ⟨hcore, hends⟩

end ControlFlow

section FlagEffect
variable {s t : State} {f : Form} {g : Flags}

/-- The flags after an instruction are those before it as far as the effects say. -/
def FlagsObey (e : FlagEffects) (old new : Flags) : Prop :=
  FlagObeys e.z old.z new.z ∧ FlagObeys e.n old.n new.n ∧ FlagObeys e.h old.h new.h ∧ FlagObeys e.c old.c new.c

theorem flagsObey_none (h : t.f = s.f) : FlagsObey .none s.f t.f := by
  rw [h]
  exact ⟨rfl, rfl, rfl, rfl⟩

/-- The 8-bit operations (R131-R138). -/
theorem aluMeaning_flagsObey {op : AluOp} {v : Byte} {n : Nat} (h : aluMeaning op v n s = .next t) :
    FlagsObey op.flagEffects s.f t.f := by
  cases op <;> cases h <;> simp [FlagsObey, FlagObeys, AluOp.flagEffects, add8, adc8, sub8, sbc8, cp8, and8, or8, xor8]

/-- The CB rotates and shifts (R149-R156). -/
theorem rotResult_flagsObey (op : RotOp) (x : R8) (v : Byte) (c : Bool) (f : Flags) :
    FlagsObey (CbForm.rot op x).flagEffects f (rotResult op v c).2 := by
  cases op <;> exact ⟨trivial, rfl, rfl, by trivial⟩

theorem cbMeaning_flagsObey {op : CbForm} (h : cbMeaning op s = .next t) : FlagsObey op.flagEffects s.f t.f := by
  rcases op with ⟨op, x⟩ | ⟨n, x⟩ | ⟨n, x⟩ | ⟨n, x⟩ <;> cases h
  · exact rotResult_flagsObey op x _ _ _
  · exact ⟨trivial, rfl, rfl, rfl⟩
  · exact flagsObey_none (by simp)
  · exact flagsObey_none (by simp)

/-- The effects of the record are those of the meaning (R120). -/
theorem formMeaning_flagsObey (h : formMeaning f s = .next t) : FlagsObey f.flagEffects s.f t.f := by
  cases f with
  | alu op x => exact aluMeaning_flagsObey h
  | aluImm op d8 => exact aluMeaning_flagsObey h
  | cb op => exact cbMeaning_flagsObey h
  | inc8 | dec8 | addHl => cases h; exact ⟨by trivial, rfl, trivial, by trivial⟩
  | daa => cases h; exact ⟨trivial, rfl, rfl, trivial⟩
  | cpl => cases h; exact ⟨rfl, rfl, rfl, rfl⟩
  | scf => cases h; exact ⟨rfl, rfl, rfl, rfl⟩
  | ccf => cases h; exact ⟨rfl, rfl, rfl, trivial⟩
  | addSp | ldHlSpE8 => cases h; exact ⟨rfl, rfl, trivial, trivial⟩
  | rotA op => cases h; cases op <;> exact ⟨rfl, rfl, rfl, trivial⟩
  | pop rr =>
    cases h
    cases rr with
    | af => exact ⟨trivial, trivial, trivial, trivial⟩
    | _ => exact flagsObey_none rfl
  | halt => exact flagsObey_none (formMeaning_halt_ends h).1.f
  | invalid => cases h
  | jpCc | jrCc | callCc | retCc =>
    simp only [formMeaning, jumpIf, jumpRelIf, callIf, returnIf] at h
    split at h <;> cases h <;> exact flagsObey_none (by simp)
  | _ => cases h; exact flagsObey_none (by simp [returnFromInterrupt])

end FlagEffect

section ControlBits
variable {s t : State} {f : Form}

/-- The control bits are as before. -/
def SameControl (s t : State) : Prop :=
  t.ime = s.ime ∧ t.imePending = s.imePending ∧ t.stopped = s.stopped ∧ t.halted = s.halted

/-- An instruction other than DI, EI, RETI, STOP and HALT leaves the control bits alone. -/
theorem formMeaning_sameControl (h : formMeaning f s = .next t) (hdi : f ≠ .di) (hei : f ≠ .ei) (hreti : f ≠ .reti)
    (hhalt : f ≠ .halt) (hstop : f.successor ≠ .stop) : SameControl s t := by
  cases f with
  | di => exact absurd rfl hdi
  | ei => exact absurd rfl hei
  | reti => exact absurd rfl hreti
  | halt => exact absurd rfl hhalt
  | stop => exact absurd rfl hstop
  | invalid => cases h
  | alu op | aluImm op => cases op <;> cases h <;> exact ⟨rfl, rfl, rfl, rfl⟩
  | cb op => rcases op with _ | _ | _ | _ <;> cases h <;> simp [SameControl]
  | jpCc | jrCc | callCc | retCc =>
    simp only [formMeaning, jumpIf, jumpRelIf, callIf, returnIf] at h
    split at h <;> cases h <;> simp [SameControl]
  | _ => cases h; simp [SameControl]

theorem form_eq_di_iff {i : Instr} : i.form = .di ↔ i = .di :=
  ⟨fun h => eq_of_form_eq_of_not_cb (j := .di) rfl (fun _ => Form.noConfusion) h, fun h => h ▸ rfl⟩

theorem form_eq_ei_iff {i : Instr} : i.form = .ei ↔ i = .ei :=
  ⟨fun h => eq_of_form_eq_of_not_cb (j := .ei) rfl (fun _ => Form.noConfusion) h, fun h => h ▸ rfl⟩

theorem form_eq_reti_iff {i : Instr} : i.form = .reti ↔ i = .reti :=
  ⟨fun h => eq_of_form_eq_of_not_cb (j := .reti) rfl (fun _ => Form.noConfusion) h, fun h => h ▸ rfl⟩

end ControlBits

/-- Settles O14: a fallthrough ends at the next address; every other kind by its own rule. -/
theorem controlGoesWhereTheRecordSays : Obligations.ControlGoesWhereTheRecordSays := by
  unfold Obligations.ControlGoesWhereTheRecordSays
  intro i s t h
  rw [exec_eq_formMeaning] at h
  generalize i.form = f at h ⊢
  cases f with
  | jp | jr | call | rst => cases h; exact .inl (List.mem_singleton.2 rfl)
  | jpHl | ret | reti => exact .inr (List.mem_singleton.2 rfl)
  | retCc => exact .inr (List.mem_cons_self ..)
  | jpCc | jrCc | callCc =>
    simp only [formMeaning, jumpIf, jumpRelIf, callIf] at h
    split at h <;> cases h
    · exact .inl (List.mem_cons_self ..)
    · exact .inl (List.mem_cons_of_mem _ (List.mem_singleton.2 rfl))
  | halt => exact (formMeaning_halt_ends h).2.pc
  | stop => cases h; exact ⟨rfl, rfl⟩
  | invalid => cases h
  | _ => exact pc_of_fallthrough h rfl

/-- Settles O15: the flag effects by form. -/
theorem flagsChangeAsTheRecordSays : Obligations.FlagsChangeAsTheRecordSays := by
  unfold Obligations.FlagsChangeAsTheRecordSays
  intro i s t h
  rw [exec_eq_formMeaning] at h
  exact formMeaning_flagsObey h

/-- Settles O17: the four instructions that write a control bit by their rules, every other by the frame. -/
theorem imeIsWrittenOnlyByDiEiReti : Obligations.ImeIsWrittenOnlyByDiEiReti := by
  unfold Obligations.ImeIsWrittenOnlyByDiEiReti
  intro i s t hhalt h
  rw [exec_eq_formMeaning] at h
  simp only [← form_eq_di_iff, ← form_eq_ei_iff, ← form_eq_reti_iff]
  replace hhalt : i.form ≠ .halt := mt form_eq_halt_iff.1 hhalt
  generalize i.form = f at h hhalt ⊢
  cases f with
  | di | ei | reti | stop => cases h; exact ⟨rfl, rfl, rfl, rfl⟩
  | _ =>
    obtain ⟨hime, hpend, hstopped, hhalted⟩ := formMeaning_sameControl h Form.noConfusion Form.noConfusion Form.noConfusion hhalt
      Successor.noConfusion
    exact ⟨hime, hpend, hstopped, hhalted⟩

end Sys2Proof.Machine
end

section
/-! An instruction run on a state with other flags: the outcome differs in the flags alone, and only in those that the instruction keeps
(30_encoding.md R120). -/

namespace Sys2Proof.Machine
open Sys2Proof.Stmt

section OtherFlags
variable {s t : State} {f : Form} {g : Flags}

theorem agreeOn_carry {names : List FlagName} {f : Flags} (h : AgreeOn names f g) (hc : .c ∈ names) : f.c = g.c := by
  obtain ⟨-, -, -, hcarry⟩ := h
  exact hcarry hc

theorem eq_of_agreeOn_all {f : Flags} (h : AgreeOn [.z, .n, .h, .c] f g) : f = g := by
  obtain ⟨hz, hn, hh, hc⟩ := h
  rw [show f = ⟨f.z, f.n, f.h, f.c⟩ from rfl, hz (by decide), hn (by decide), hh (by decide), hc (by decide)]

theorem condHolds_congr {cc : Cond} (h : AgreeOn [cc.flag] s.f g) : condHolds g cc = condHolds s.f cc := by
  obtain ⟨hz, -, -, hc⟩ := h
  cases cc with
  | nz | z => simp [condHolds, hz (by decide)]
  | nc | c => simp [condHolds, hc (by decide)]

theorem aluMeaning_setFlags {op : AluOp} {v : Byte} {n : Nat} (hc : op = .adc ∨ op = .sbc → s.f.c = g.c)
    (h : aluMeaning op v n s = .next t) :
    aluMeaning op v n (s.setFlags g) = .next (t.setFlags (flagsFrom op.flagEffects g t.f)) := by
  cases op with
  | adc => cases h; rw [aluMeaning, adcA, State.setFlags_f, ← hc (.inl rfl)]; rfl
  | sbc => cases h; rw [aluMeaning, sbcA, State.setFlags_f, ← hc (.inr rfl)]; rfl
  | _ => cases h; rfl

theorem rotResult_flagsFrom (op : RotOp) (x : R8) (v : Byte) (c : Bool) (g : Flags) :
    flagsFrom (CbForm.rot op x).flagEffects g (rotResult op v c).2 = (rotResult op v c).2 := by
  cases op <;> rfl

theorem rotResult_congr {op : RotOp} (v : Byte) (hc : op = .rl ∨ op = .rr → s.f.c = g.c) :
    rotResult op v g.c = rotResult op v s.f.c := by
  cases op with
  | rl => rw [hc (.inl rfl)]
  | rr => rw [hc (.inr rfl)]
  | _ => rfl

theorem writeR8_setFlags_setFlags (s : State) (x : R8) (v : Byte) (f g : Flags) :
    (writeR8 (s.setFlags g) x v).setFlags f = (writeR8 s x v).setFlags f := by
  rw [writeR8_setFlags]; rfl

theorem cbMeaning_setFlags {op : CbForm} (hg : AgreeOn (Form.cb op).flagsRead s.f g) (h : cbMeaning op s = .next t) :
    cbMeaning op (s.setFlags g) = .next (t.setFlags (flagsFrom op.flagEffects g t.f)) := by
  rcases op with ⟨op, x⟩ | ⟨n, x⟩ | ⟨n, x⟩ | ⟨n, x⟩ <;> cases h
  · have hc : op = .rl ∨ op = .rr → s.f.c = g.c := by
      rintro (rfl | rfl) <;> exact agreeOn_carry hg (List.mem_singleton.2 rfl)
    rw [State.setFlags_f, rotResult_flagsFrom, cbMeaning, rotR8, readR8_setFlags, State.setFlags_f, rotResult_congr _ hc]
    exact congrArg Host.Outcome.next (writeR8_setFlags_setFlags (s.advance 2) x _ _ g)
  · rw [cbMeaning, bitR8, readR8_setFlags]; rfl
  · rw [cbMeaning, resR8, readR8_setFlags]
    exact congrArg Host.Outcome.next (writeR8_setFlags (s.advance 2) g x _)
  · rw [cbMeaning, setR8, readR8_setFlags]
    exact congrArg Host.Outcome.next (writeR8_setFlags (s.advance 2) g x _)

theorem storeA_setFlags (s : State) (addr : Word) (n : Nat) (g : Flags) :
    storeA addr n (s.setFlags g) = .next ((write8 (s.advance n) addr s.a).setFlags g) :=
  congrArg Host.Outcome.next (write8_setFlags (s.advance n) addr s.a g)

theorem loadA_setFlags (s : State) (addr : Word) (n : Nat) (g : Flags) :
    loadA addr n (s.setFlags g) = .next (State.setFlags { s.advance n with a := read8 s addr } g) := by
  rw [loadA, read8_setFlags]; rfl

theorem storeAHl_setFlags (s : State) (step : Word) (g : Flags) :
    storeAHl step (s.setFlags g) = .next ((State.setHl (write8 (s.advance 1) s.hl s.a) (s.hl + step)).setFlags g) :=
  congrArg (fun u => Host.Outcome.next (State.setHl u (s.hl + step))) (write8_setFlags (s.advance 1) s.hl s.a g)

theorem loadAHl_setFlags (s : State) (step : Word) (g : Flags) :
    loadAHl step (s.setFlags g) =
      .next ((State.setHl { s.advance 1 with a := read8 s s.hl } (s.hl + step)).setFlags g) := by
  have hhl : (s.setFlags g).hl = s.hl := rfl
  rw [loadAHl, hhl, read8_setFlags]; rfl

theorem write16_setFlags (s : State) (addr w : Word) (g : Flags) :
    write16 (s.setFlags g) addr w = (write16 s addr w).setFlags g := by
  rw [write16, write8_setFlags, write8_setFlags, write16]

theorem pushRp2_setFlags (s : State) (rr : Rp2) (g : Flags) (hread : readRp2 (s.setFlags g) rr = readRp2 s rr) :
    pushRp2 rr (s.setFlags g) = .next ((push16 (s.advance 1) (readRp2 s rr)).setFlags g) := by
  rw [pushRp2, hread]
  exact congrArg Host.Outcome.next (push16_setFlags (s.advance 1) g _)

theorem halt_setFlags (s : State) (g : Flags) : halt (s.setFlags g) =
    .next ((haltLoop s.imePending Config.haltFuseCycles 0 { s.advance 1 with halted := true }).setFlags g) := by
  rw [halt, ← haltLoop_setFlags]
  rfl

theorem callTo_setFlags (s : State) (a16 : Word) (g : Flags) :
    callTo a16 (s.setFlags g) = .next (State.setFlags { push16 s (s.advance 3).pc with pc := a16 } g) := by
  rw [callTo, push16_setFlags]; rfl

theorem returnTo_setFlags (s : State) (g : Flags) :
    returnTo (s.setFlags g) = .next (State.setFlags { popState s with pc := popWord s } g) := by
  rw [returnTo, popWord_setFlags]; rfl

variable (taken fall : State → Result) in
/-- A conditional transfer takes the same branch, so it is enough that each branch neither reads nor writes the flags. -/
theorem conditional_setFlags {cc : Cond} (hg : AgreeOn [cc.flag] s.f g)
    (h : (if condHolds s.f cc then taken s else fall s) = .next t)
    (htaken : taken s = .next t → taken (s.setFlags g) = .next (t.setFlags g))
    (hfall : fall s = .next t → fall (s.setFlags g) = .next (t.setFlags g)) :
    (if condHolds g cc then taken (s.setFlags g) else fall (s.setFlags g)) = .next (t.setFlags g) := by
  rw [condHolds_congr hg]
  split at h
  next hcond => rw [if_pos hcond]; exact htaken h
  next hcond => rw [if_neg hcond]; exact hfall h

/-- An instruction has a next state, or it is the trap. -/
theorem formMeaning_next_or_invalid (f : Form) (s : State) : (∃ t, formMeaning f s = .next t) ∨ ∃ op, f = .invalid op := by
  cases f with
  | invalid op => exact .inr ⟨op, rfl⟩
  | _ => exact .inl (formMeaning_next _ rfl s)

/-- Every instruction on a state with other flags, that agree on the flags it reads. -/
theorem formMeaning_setFlags (hg : AgreeOn f.flagsRead s.f g) (h : formMeaning f s = .next t) :
    formMeaning f (s.setFlags g) = .next (t.setFlags (flagsFrom f.flagEffects g t.f)) := by
  cases f with
  | invalid => cases h
  | alu op x =>
    rw [formMeaning, readR8_setFlags]
    exact aluMeaning_setFlags (by rintro (rfl | rfl) <;> exact agreeOn_carry hg (List.mem_singleton.2 rfl)) h
  | aluImm op d8 => exact aluMeaning_setFlags (by rintro (rfl | rfl) <;> exact agreeOn_carry hg (List.mem_singleton.2 rfl)) h
  | cb op => exact cbMeaning_setFlags hg h
  | rotA op =>
    have hc : op = .rla ∨ op = .rra → s.f.c = g.c := by rintro (rfl | rfl) <;> exact agreeOn_carry hg (List.mem_singleton.2 rfl)
    cases h
    cases op with
    | rla => rw [formMeaning, rotAcc, State.setFlags_f, ← hc (.inl rfl)]; rfl
    | rra => rw [formMeaning, rotAcc, State.setFlags_f, ← hc (.inr rfl)]; rfl
    | _ => rfl
  | ccf =>
    have hc : s.f.c = g.c := agreeOn_carry hg (List.mem_singleton.2 rfl)
    cases h
    rw [formMeaning, ccfC, State.setFlags_f]
    simp only [ccf, ← hc]
    rfl
  | daa =>
    obtain ⟨-, hn, hh, hc⟩ := hg
    cases h
    rw [formMeaning, daaA, State.setFlags_f, ← hn (by decide), ← hh (by decide), ← hc (by decide)]
    rw [show flagsFrom Form.daa.flagEffects g = fun f => ⟨f.z, g.n, f.h, f.c⟩ from rfl, ← hn (by decide)]
    rfl
  | inc8 x =>
    cases h
    rw [formMeaning, incR8, readR8_setFlags]
    exact congrArg Host.Outcome.next (writeR8_setFlags_setFlags (s.advance 1) x _ _ g)
  | dec8 x =>
    cases h
    rw [formMeaning, decR8, readR8_setFlags]
    exact congrArg Host.Outcome.next (writeR8_setFlags_setFlags (s.advance 1) x _ _ g)
  | ld8 x y =>
    cases h
    rw [formMeaning, ldR8, readR8_setFlags]
    exact congrArg Host.Outcome.next (writeR8_setFlags (s.advance 1) g x _)
  | ldImm8 x d8 => cases h; exact congrArg Host.Outcome.next (writeR8_setFlags (s.advance 2) g x d8)
  | ldAInd p => cases h; exact loadA_setFlags s (indAddr s p) 1 g
  | ldAA16 a16 => cases h; exact loadA_setFlags s a16 3 g
  | ldhAC => cases h; exact loadA_setFlags s (highPage s.c) 1 g
  | ldhAA8 a8 => cases h; exact loadA_setFlags s (highPage a8) 2 g
  | ldIndA p => cases h; exact storeA_setFlags s (indAddr s p) 1 g
  | ldA16A a16 => cases h; exact storeA_setFlags s a16 3 g
  | ldhCA => cases h; exact storeA_setFlags s (highPage s.c) 1 g
  | ldhA8A a8 => cases h; exact storeA_setFlags s (highPage a8) 2 g
  | ldAHli => cases h; exact loadAHl_setFlags s 1 g
  | ldAHld => cases h; exact loadAHl_setFlags s (-1) g
  | ldHliA => cases h; exact storeAHl_setFlags s 1 g
  | ldHldA => cases h; exact storeAHl_setFlags s (-1) g
  | ldRp16 rr d16 => cases rr <;> cases h <;> rfl
  | inc16 rr => cases rr <;> cases h <;> rfl
  | dec16 rr => cases rr <;> cases h <;> rfl
  | addHl rr => cases rr <;> cases h <;> rfl
  | ldA16Sp a16 => cases h; exact congrArg Host.Outcome.next (write16_setFlags (s.advance 3) a16 s.sp g)
  | push rr =>
    cases rr with
    | af =>
      obtain rfl := eq_of_agreeOn_all hg
      cases h; exact pushRp2_setFlags s .af s.f rfl
    | _ => cases h; exact pushRp2_setFlags s _ g rfl
  | pop rr =>
    cases h
    rw [formMeaning, popRp2, popWord_setFlags]
    cases rr <;> rfl
  | jpCc cc a16 =>
    exact conditional_setFlags (jump a16) (fun u => .next (u.advance 3)) hg h (fun h => by cases h; rfl) (fun h => by cases h; rfl)
  | jrCc cc e8 =>
    exact conditional_setFlags (jumpRel e8) (fun u => .next (u.advance 2)) hg h (fun h => by cases h; rfl) (fun h => by cases h; rfl)
  | callCc cc a16 =>
    exact conditional_setFlags (callTo a16) (fun u => .next (u.advance 3)) hg h
      (fun h => by cases h; exact callTo_setFlags s a16 g) (fun h => by cases h; rfl)
  | retCc cc =>
    exact conditional_setFlags returnTo (fun u => .next (u.advance 1)) hg h
      (fun h => by cases h; exact returnTo_setFlags s g) (fun h => by cases h; rfl)
  | call a16 => cases h; exact callTo_setFlags s a16 g
  | ret => cases h; exact returnTo_setFlags s g
  | reti => cases h; rw [formMeaning, returnFromHandler, returnFromInterrupt, popWord_setFlags]; rfl
  | rst y => cases h; rw [formMeaning, restart, push16_setFlags]; rfl
  | halt => rw [← Host.Outcome.next.inj h]; exact halt_setFlags s g
  | _ => cases h; rfl

end OtherFlags

/-- Settles O16: the flags alone differ for an instruction that completes; the trap does not look at them. -/
theorem flagsNotReadDoNotMatter : Obligations.FlagsNotReadDoNotMatter := by
  unfold Obligations.FlagsNotReadDoNotMatter
  intro i s g hg
  rw [exec_eq_formMeaning, exec_eq_formMeaning]
  rcases formMeaning_next_or_invalid i.form s with ⟨t, ht⟩ | ⟨op, hop⟩
  · rw [ht]; exact formMeaning_setFlags hg ht
  · rw [hop]; rfl

end Sys2Proof.Machine
end

section
/-! The IR of every instruction against its rule: the body of a lowering leaves the state that the rule leaves, and says whether the
instruction took its branch, from which the closing `Tick` has its count (49_ir_lowering.md R340-R362). -/

namespace Sys2Proof.Machine
open Sys2Proof.Stmt

section IrRuns
variable {s t : State} {f : Form} {u u' : IrState}

theorem irRun_append {xs : List IrOp} (h : irRun xs u = .ok u') (ys : List IrOp) : irRun (xs ++ ys) u = irRun ys u' := by
  induction xs generalizing u with
  | nil => cases h; rfl
  | cons op xs ih =>
    rw [irRun] at h
    rw [List.cons_append, irRun]
    split at h
    next v hv => exact ih h
    next => cases h

theorem irRun_cons {op : IrOp} (h : irExec op u = .ok u') (rest : List IrOp) : irRun (op :: rest) u = irRun rest u' := by
  rw [irRun, h]

theorem irExec_irLoad (k : Nat) (x : R8) (u : IrState) : irExec (irLoad k x) u = .ok (u.setTemp k (.b8 (readR8 u.core x))) := by
  cases x <;> rfl

theorem irExec_irStore (k : Nat) (x : R8) (u : IrState) :
    irExec (irStore k x) u = .ok (u.setCore (writeR8 u.core x (u.temp8 k))) := by
  cases x <;> rfl

/-- A lowering of the shape load, store (R360). -/
theorem irRun_load_store (x y : R8) (u : IrState) :
    irRun [irLoad 0 y, irStore 0 x] u =
      .ok ((u.setTemp 0 (.b8 (readR8 u.core y))).setCore (writeR8 u.core x (readR8 u.core y))) := by
  rw [irRun_cons (irExec_irLoad 0 y u), irRun_cons (irExec_irStore 0 x _)]
  rfl

/-- A lowering of the shape load, operation, store (R360). -/
theorem irRun_load_op_store {op : IrOp} {x : R8} (h : irExec op (u.setTemp 0 (.b8 (readR8 u.core x))) = .ok u') :
    irRun [irLoad 0 x, op, irStore 1 x] u = .ok (u'.setCore (writeR8 u'.core x (u'.temp8 1))) := by
  rw [irRun_cons (irExec_irLoad 0 x u), irRun_cons h, irRun_cons (irExec_irStore 1 x _)]
  rfl

/-- The IR state a lowering starts in: PC past the instruction (R341). -/
def irStart (f : Form) (s : State) : IrState := ⟨s.advance f.length, [], false, s.imePending⟩

/-- The body of a lowering, run from its start, leaves the state `t`, and the count of the closing `Tick` is that of the record. -/
def BodyLeaves (f : Form) (s t : State) : Prop :=
  ∃ u, irRun (lowerBody s.pc (s.pc + BitVec.ofNat 16 f.length) f) (irStart f s) = .ok u ∧ u.core = t ∧ u.p = s.imePending ∧
    (if u.taken then f.cyclesTaken.getD f.cycles else f.cycles) = f.tickCycles s.f

/-! ### Rules that are written otherwise than their lowering -/

theorem aluMeaning_eq_irAlu8 (op : AluOp) (v : Byte) (n : Nat) (s : State) :
    aluMeaning op v n s = .next (irAlu8 op v (s.advance n)) := by
  cases op <;> rfl

theorem loadA_advance (s : State) (addr : Word) (n : Nat) :
    loadA addr n s = .next { s.advance n with a := read8 (s.advance n) addr } := by
  rw [loadA, read8_advance]

theorem loadAHl_advance (s : State) (step : Word) :
    loadAHl step s = .next (State.setHl { s.advance 1 with a := read8 (s.advance 1) s.hl } (s.hl + step)) := by
  rw [loadAHl, read8_advance]

theorem dec16_eq (w : Word) : dec16 w = w + (-1) := sub_eq_add_neg w 1

theorem write8_hl (s : State) (addr : Word) (v : Byte) : (write8 s addr v).hl = s.hl := by
  simp [State.hl]

theorem storeAHl_advance (s : State) (step : Word) : storeAHl step s =
    .next (State.setHl (write8 (s.advance 1) s.hl s.a) ((write8 (s.advance 1) s.hl s.a).hl + step)) := by
  rw [storeAHl, write8_hl]; rfl

theorem incR8_advance (x : R8) (s : State) : incR8 x s =
    .next (writeR8 ((s.advance 1).setFlags (inc8 (readR8 (s.advance 1) x) s.f.c).2) x (inc8 (readR8 (s.advance 1) x) s.f.c).1) := by
  rw [incR8, readR8_advance, writeR8_setFlags]

theorem decR8_advance (x : R8) (s : State) : decR8 x s =
    .next (writeR8 ((s.advance 1).setFlags (dec8 (readR8 (s.advance 1) x) s.f.c).2) x (dec8 (readR8 (s.advance 1) x) s.f.c).1) := by
  rw [decR8, readR8_advance, writeR8_setFlags]

theorem rotR8_advance (op : RotOp) (x : R8) (s : State) : rotR8 op x s =
    .next (writeR8 ((s.advance 2).setFlags (rotResult op (readR8 (s.advance 2) x) s.f.c).2) x
      (rotResult op (readR8 (s.advance 2) x) s.f.c).1) := by
  rw [rotR8, readR8_advance, writeR8_setFlags]

theorem popRp2_advance (rr : Rp2) (s : State) :
    popRp2 rr s = .next (writeRp2 (popState (s.advance 1)) rr (popWord (s.advance 1))) := by
  rw [popRp2, popWord_advance]

theorem push16_advance_to (n : Nat) (w target : Word) (s : State) :
    ({ push16 s w with pc := target } : State) = { push16 (s.advance n) w with pc := target } := by
  rw [push16_advance]; rfl

theorem callTo_advance (a16 : Word) (s : State) :
    callTo a16 s = .next { push16 (s.advance 3) (s.advance 3).pc with pc := a16 } := by
  rw [callTo, push16_advance_to 3]

theorem returnTo_advance (s : State) :
    returnTo s = .next { popState (s.advance 1) with pc := popWord (s.advance 1) } := by
  rw [returnTo, popWord_advance]; rfl

theorem returnFromHandler_advance (s : State) : returnFromHandler s = .next (returnFromInterrupt (s.advance 1)) := by
  rw [returnFromHandler, returnFromInterrupt, returnFromInterrupt, popWord_advance]; rfl

/-! ### The bodies -/

/-- A conditional transfer: its one operation jumps or does nothing, by the condition (R348). -/
theorem bodyLeaves_of_condition {cc : Cond} {n : Nat} (hcc : f.condition = some cc) (hn : f.cyclesTaken = some n)
    (hrun : irRun (lowerBody s.pc (s.pc + BitVec.ofNat 16 f.length) f) (irStart f s) =
      .ok (if condHolds s.f cc then u else irStart f s))
    (hp : u.p = s.imePending) (htaken : u.taken = true)
    (h : (if condHolds s.f cc then Host.Outcome.next u.core else .next (s.advance f.length) : Result) = .next t) :
    BodyLeaves f s t := by
  refine ⟨_, hrun, ?_⟩
  rw [Form.tickCycles, hcc, hn]
  split at h
  next hcond => simp only [if_pos hcond, htaken]; exact ⟨Host.Outcome.next.inj h, hp, rfl⟩
  next hcond => simp only [if_neg hcond]; exact ⟨Host.Outcome.next.inj h, rfl, rfl⟩

theorem bodyLeaves (h : formMeaning f s = .next t) : BodyLeaves f s t := by
  cases f with
  | invalid => cases h
  | nop | daa | cpl | scf | ccf | di | ei | stop | rotA => cases h; exact ⟨_, rfl, rfl, rfl, rfl⟩
  | jp | jr | jpHl => cases h; exact ⟨_, rfl, rfl, rfl, rfl⟩
  | ldRp16 rr | inc16 rr | dec16 rr | addHl rr => cases h; cases rr <;> exact ⟨_, rfl, rfl, rfl, rfl⟩
  | addSp | ldHlSpE8 | ldSpHl | ldA16Sp => cases h; exact ⟨_, rfl, rfl, rfl, rfl⟩
  | ld8 x y =>
    rw [formMeaning, ldR8, ← readR8_advance s 1] at h
    cases h; exact ⟨_, irRun_load_store x y _, rfl, rfl, by cases x <;> cases y <;> rfl⟩
  | ldImm8 x d8 => cases h; cases x <;> exact ⟨_, rfl, rfl, rfl, rfl⟩
  | ldAInd p => rw [formMeaning, loadA_advance] at h; cases h; cases p <;> exact ⟨_, rfl, rfl, rfl, rfl⟩
  | ldAA16 | ldhAA8 | ldhAC => rw [formMeaning, loadA_advance] at h; cases h; exact ⟨_, rfl, rfl, rfl, rfl⟩
  | ldIndA p => cases h; cases p <;> exact ⟨_, rfl, rfl, rfl, rfl⟩
  | ldA16A | ldhA8A | ldhCA => cases h; exact ⟨_, rfl, rfl, rfl, rfl⟩
  | ldAHli => rw [formMeaning, loadAHl_advance] at h; cases h; exact ⟨_, rfl, rfl, rfl, rfl⟩
  | ldAHld => rw [formMeaning, loadAHl_advance, ← dec16_eq] at h; cases h; exact ⟨_, rfl, rfl, rfl, rfl⟩
  | ldHliA =>
    rw [formMeaning, storeAHl_advance] at h
    cases h; exact ⟨_, rfl, rfl, rfl, rfl⟩
  | ldHldA =>
    rw [formMeaning, storeAHl_advance, ← dec16_eq] at h
    cases h; exact ⟨_, rfl, rfl, rfl, rfl⟩
  | push rr => cases h; cases rr <;> exact ⟨_, rfl, rfl, rfl, rfl⟩
  | pop rr => rw [formMeaning, popRp2_advance] at h; cases h; cases rr <;> exact ⟨_, rfl, rfl, rfl, rfl⟩
  | alu op x =>
    rw [formMeaning, aluMeaning_eq_irAlu8, ← readR8_advance s 1] at h
    cases h
    exact ⟨_, irRun_cons (irExec_irLoad 0 x _) _, rfl, rfl, by cases x <;> rfl⟩
  | aluImm op d8 => rw [formMeaning, aluMeaning_eq_irAlu8] at h; cases h; exact ⟨_, rfl, rfl, rfl, rfl⟩
  | inc8 x =>
    rw [formMeaning, incR8_advance] at h
    cases h; exact ⟨_, irRun_load_op_store rfl, rfl, rfl, by cases x <;> rfl⟩
  | dec8 x =>
    rw [formMeaning, decR8_advance] at h
    cases h; exact ⟨_, irRun_load_op_store rfl, rfl, rfl, by cases x <;> rfl⟩
  | cb op =>
    rw [formMeaning] at h
    rcases op with ⟨op, x⟩ | ⟨n, x⟩ | ⟨n, x⟩ | ⟨n, x⟩
    · rw [cbMeaning, rotR8_advance] at h
      cases h; exact ⟨_, irRun_load_op_store rfl, rfl, rfl, rfl⟩
    · rw [cbMeaning, bitR8, ← readR8_advance s 2] at h
      cases h; exact ⟨_, irRun_cons (irExec_irLoad 0 x _) _, rfl, rfl, rfl⟩
    · rw [cbMeaning, resR8, ← readR8_advance s 2] at h
      cases h; exact ⟨_, irRun_load_op_store rfl, rfl, rfl, rfl⟩
    · rw [cbMeaning, setR8, ← readR8_advance s 2] at h
      cases h; exact ⟨_, irRun_load_op_store rfl, rfl, rfl, rfl⟩
  | jpCc cc a16 => exact bodyLeaves_of_condition rfl rfl rfl rfl rfl h
  | jrCc cc e8 => exact bodyLeaves_of_condition rfl rfl rfl rfl rfl h
  | callCc cc a16 =>
    rw [formMeaning, callIf, callTo_advance] at h
    exact bodyLeaves_of_condition rfl rfl rfl rfl rfl h
  | retCc cc =>
    rw [formMeaning, returnIf, returnTo_advance] at h
    exact bodyLeaves_of_condition rfl rfl rfl rfl rfl h
  | call => rw [formMeaning, callTo_advance] at h; cases h; exact ⟨_, rfl, rfl, rfl, rfl⟩
  | ret => rw [formMeaning, returnTo_advance] at h; cases h; exact ⟨_, rfl, rfl, rfl, rfl⟩
  | reti => rw [formMeaning, returnFromHandler_advance] at h; cases h; exact ⟨_, rfl, rfl, rfl, rfl⟩
  | rst y => rw [formMeaning, restart, push16_advance_to 1] at h; cases h; exact ⟨_, rfl, rfl, rfl, rfl⟩
  | halt => exact ⟨_, rfl, Host.Outcome.next.inj h, rfl, rfl⟩

/-- The closing `Tick` of a lowering, where it has one (R361). -/
theorem irRun_lowerTick (f : Form) (u : IrState) : irRun (lowerTick f) u = .ok (if f.ticks
    then u.setCore (tick (if u.taken then f.cyclesTaken.getD f.cycles else f.cycles) u.p u.core) else u) := by
  unfold lowerTick
  split <;> rfl

end IrRuns

/-- Settles O13: the body leaves what the rule leaves, then the `Tick` is the same; the trap is the first operation of its lowering. -/
theorem irGivesTheInstructionRules : Obligations.IrGivesTheInstructionRules := by
  unfold Obligations.IrGivesTheInstructionRules
  intro i s
  rw [exec_eq_formMeaning]
  rcases formMeaning_next_or_invalid i.form s with ⟨t, ht⟩ | ⟨op, hop⟩
  · obtain ⟨u, hrun, hcore, hp, hcount⟩ := bodyLeaves ht
    have hstart : irRun (lower s.pc i.form) (irStart i.form s) = irRun (lowerTick i.form) u := irRun_append hrun _
    rw [execViaIr, ← irStart, hstart, irRun_lowerTick, hcount, hp, hcore, ht, retire]
    cases i.form.ticks
    · exact congrArg Host.Outcome.next hcore
    · rfl
  · rw [execViaIr, hop]; rfl

end Sys2Proof.Machine
end

section
/-! The instructions that move data: loads between registers, memory and immediates, the stack, each with its frame (41_load8.md,
42_load16_stack.md). -/

namespace Sys2Proof.Machine
open Sys2Proof.Stmt

section ByteLoads
variable {s t : State} {i : Instr} {x y : R8} {v : Byte} {g : Flags} {n : Nat}

/-! ### A register written -/

/-- A register and the flags written by an instruction of `n` bytes: all else is as before. -/
theorem register_replaced (hx : x ≠ .atHl) (ht : t = (writeR8 (s.advance n) x v).setFlags g) :
    readR8 t x = v ∧ t.f = g ∧ OtherRegisters x s t ∧ t.sp = s.sp ∧ t.pc = s.pc + BitVec.ofNat 16 n ∧ OnlyRegisters s t := by
  have hw := writeR8_register (s.advance n) hx v
  have hvalue : readR8 t x = v := by rw [ht, readR8_setFlags, hw.value]
  have hothers : OtherRegisters x s t := fun y h h' => by rw [ht, readR8_setFlags, hw.others y h h', readR8_advance]
  have hbus : s.withCpu t = t := by rw [ht, ← hw.bus]; rfl
  refine ⟨hvalue, by rw [ht, State.setFlags_f], hothers, ?_, ?_, ?_, read8_of_withCpu s hbus⟩
  · rw [ht, State.setFlags_sp, writeR8_sp, State.advance_sp]
  · rw [ht, State.setFlags_pc, writeR8_pc, State.advance_pc]
  · rw [ht, hw.only]; rfl

theorem setFlags_f_self (s : State) : s.setFlags s.f = s := rfl

/-- An operand written with the flags left alone, as a write of both. -/
theorem writeR8_eq_setFlags (s : State) (n : Nat) (x : R8) (v : Byte) :
    writeR8 (s.advance n) x v = (writeR8 (s.advance n) x v).setFlags s.f := by
  conv_lhs => rw [← setFlags_f_self (writeR8 (s.advance n) x v), writeR8_f]
  rfl

theorem form_of_mem_loadRows : ∀ row ∈ loadRows, row.1.form = .ld8 row.2.1 row.2.2 ∧ row.2.1 ≠ .atHl := by decide

theorem form_of_mem_loadImmRows (d8 : Byte) : ∀ row ∈ loadImmRows, (row.1 d8).form = .ldImm8 row.2 d8 ∧ row.2 ≠ .atHl := by
  intro row hrow
  simp only [loadImmRows, List.mem_cons, List.not_mem_nil, or_false] at hrow
  rcases hrow with rfl | rfl | rfl | rfl | rfl | rfl | rfl <;> exact ⟨rfl, R8.noConfusion⟩

theorem exec_of_form_ld8 (h : i.form = .ld8 x y) (s : State) :
    exec i s = .next ((writeR8 (s.advance 1) x (readR8 s y)).setFlags s.f) := by
  rw [exec_eq_formMeaning, h, ← writeR8_eq_setFlags]; rfl

theorem exec_of_form_ldImm8 {d8 : Byte} (h : i.form = .ldImm8 x d8) (s : State) :
    exec i s = .next ((writeR8 (s.advance 2) x d8).setFlags s.f) := by
  rw [exec_eq_formMeaning, h, ← writeR8_eq_setFlags]; rfl

/-! ### The loads of A -/

theorem loadsA_of_exec {addr : State → Word} (h : ∀ s, exec i s = loadA (addr s) n s) : LoadsA i (BitVec.ofNat 16 n) addr :=
  fun s => ⟨_, h s, rfl, rfl, rfl, read8_of_withCpu s rfl⟩

/-- The high page is 256 addresses from 0xFF00 on (R94). -/
theorem highPage_eq (k : Byte) : highPage k = BitVec.ofNat 16 (0xFF00 + k.toNat) := by
  have hk := k.isLt
  apply BitVec.eq_of_toNat_eq
  rw [highPage, zext16, BitVec.toNat_add, BitVec.toNat_setWidth, BitVec.toNat_ofNat, BitVec.toNat_ofNat]
  omega

/-- A load of A that moves HL by `step`. -/
theorem loadAHl_spec {step : Word} (h : ∀ s, exec i s = loadAHl step s) (s : State) :
    ∃ t, exec i s = .next t ∧ t.a = read8 s s.hl ∧ t.hl.toNat = (s.hl.toNat + step.toNat) % 65536 ∧
      t = { s with a := t.a, h := t.h, l := t.l, pc := s.pc + 1 } ∧ ∀ addr, read8 t addr = read8 s addr := by
  refine ⟨_, h s, rfl, ?_, rfl, read8_of_withCpu s rfl⟩
  rw [State.setHl_hl, BitVec.toNat_add]

end ByteLoads

section ByteStores
variable {s t : State} {i : Instr} {n : Nat}

/-- A byte store by an instruction of `n` bytes is a `write8`, PC apart. -/
theorem write8_advance_eq (s : State) (n : Nat) (addr : Word) (v : Byte) :
    write8 (s.advance n) addr v = { write8 s addr v with pc := s.pc + BitVec.ofNat 16 n } := by
  rw [write8_advance, State.advance, write8_pc]

theorem storesByte_of_exec {addr : State → Word} {value : State → Byte}
    (h : ∀ s, exec i s = .next (write8 (s.advance n) (addr s) (value s))) : StoresByte i (BitVec.ofNat 16 n) addr value := by
  intro s hm
  refine ⟨_, h s, ?_, ?_, ?_, ?_, write8_advance_eq s n _ _⟩
  · rw [← State.withCpu_advance, write8_withCpu]
    exact byteStored_withCpu (write8_byteStored hm _ _) _
  · simp [SameProcessor]
  · simp
  · simp

theorem form_of_mem_storeRows : ∀ row ∈ storeRows, row.1.form = .ld8 .atHl row.2 := by decide

theorem storesByte_of_form {x : R8} (h : i.form = .ld8 .atHl x) : StoresByte i 1 State.hl fun s => readR8 s x :=
  storesByte_of_exec (n := 1) fun s => by rw [exec_eq_formMeaning, h]; rfl

theorem storesAndMoves_of_exec {step : Word} (h : ∀ s, exec i s = storeAHl step s) : StoresAndMoves i step.toNat := by
  intro s hm
  refine ⟨_, h s, ?_, ?_, ?_, ?_, ?_, ?_⟩
  · have hbus : State.setHl (write8 (s.advance 1) s.hl s.a) (s.hl + step) =
        (write8 s s.hl s.a).withCpu (State.setHl (s.advance 1) (s.hl + step)) := by
      rw [write8_advance_eq, ← write8_keeps_cpu s s.hl s.a]; rfl
    rw [hbus]
    exact byteStored_withCpu (write8_byteStored hm _ _) _
  · rw [State.setHl_hl, BitVec.toNat_add]
  · simp [SameProcessor]
  · simp
  · simp
  · rw [write8_advance_eq]; rfl

end ByteStores

section WordMoves
variable {s t : State} {i : Instr} {x : Rp} {w target : Word} {n : Nat}

/-- A pair or SP written by an instruction of `n` bytes: all else is as before. -/
theorem pair_written (ht : t = writeRp (s.advance n) x w) :
    readRp t x = w ∧ (∀ y, y ≠ x → readRp t y = readRp s y) ∧ t.a = s.a ∧ t.f = s.f ∧ t.pc = s.pc + BitVec.ofNat 16 n ∧
      OnlyRegisters s t := by
  have hw := writeRp_pair (s.advance n) x w
  have hbus : s.withCpu t = t := by rw [ht, ← hw.bus]; rfl
  refine ⟨by rw [ht, hw.value], fun y hy => by rw [ht, hw.others y hy, readRp_advance], ?_, ?_, ?_, ?_, read8_of_withCpu s hbus⟩
  · rw [ht, hw.only]; rfl
  · rw [ht, writeRp_f]; rfl
  · rw [ht, writeRp_pc]; rfl
  · rw [ht, hw.only]; rfl

theorem form_of_mem_loadPairRows (d16 : Word) : ∀ row ∈ loadPairRows, (row.1 d16).form = .ldRp16 row.2 d16 := by
  intro row hrow
  simp only [loadPairRows, List.mem_cons, List.not_mem_nil, or_false] at hrow
  rcases hrow with rfl | rfl | rfl | rfl <;> rfl

/-- A signed displacement as a number (R12). -/
theorem sext16_toNat : ∀ e : Byte, (sext16 e).toNat = displacement e := by decide

/-- `add_sp` in plain arithmetic (R142). -/
theorem addSp_result (sp : Word) (e : Byte) : AddSpResult sp e (addSp sp e).1 (addSp sp e).2 := by
  refine ⟨?_, rfl⟩
  rw [addSp, BitVec.toNat_add, sext16_toNat]

theorem pushes_of_exec (hm : s.memoryOk = true) (h : exec i s = .next { push16 s w with pc := target }) : Pushes i s w target := by
  have hbus : ({ push16 s w with pc := target } : State) =
      (write16 s (s.sp - 2) w).withCpu { s with sp := s.sp - 2, pc := target } := by
    rw [push16_eq, ← write16_keeps_cpu]; rfl
  refine ⟨_, h, rfl, push16_sp s w, ?_, ?_, by rw [push16_eq]⟩
  · rw [hbus]; exact wordStored_withCpu (write16_wordStored hm _ _) _
  · simp [SameProcessor]

theorem form_of_mem_pushRows : ∀ row ∈ pushRows, row.1.form = .push row.2 := by decide

theorem pushes_of_form {x : Rp2} (hm : s.memoryOk = true) (h : i.form = .push x) : Pushes i s (readRp2 s x) (s.pc + 1) := by
  refine pushes_of_exec hm ?_
  rw [exec_eq_formMeaning, h, formMeaning, pushRp2, push16_advance, State.advance, push16_pc]
  rfl

/-- AF read back after a pop has its low nibble cleared (R24, R25). -/
theorem pack_unpack : ∀ v : Byte, (Flags.unpack v).pack = v &&& 0xF0 := by decide

theorem popWord_bytes (s : State) : hiByte (popWord s) = read8 s (s.sp + 1) ∧ loByte (popWord s) = read8 s s.sp := by
  rw [popWord, read16]
  exact ⟨hiByte_pairWord _ _, loByte_pairWord _ _⟩

theorem form_of_mem_popRows : ∀ row ∈ popRows, row.1.form = .pop row.2 := by decide

/-- What a pop leaves in a pair: the two bytes, of AF with the low nibble cleared. -/
theorem readRp2_writeRp2 (s : State) (x : Rp2) (w : Word) : readRp2 (writeRp2 s x w) x =
    pairWord (hiByte w) (if x = .af then loByte w &&& 0xF0 else loByte w) := by
  cases x with
  | af => exact congrArg (pairWord (hiByte w)) (pack_unpack (loByte w))
  | _ => rfl

theorem readRp2_writeRp2_other (s : State) {x y : Rp2} (w : Word) (h : y ≠ x) : readRp2 (writeRp2 s x w) y = readRp2 s y := by
  cases x <;> cases y <;> first | exact absurd rfl h | rfl

theorem writeRp2_only (s : State) (x : Rp2) (w : Word) : OnlyRegisters s (writeRp2 s x w) := by
  cases x <;> exact ⟨rfl, read8_of_withCpu s rfl⟩

theorem writeRp2_f (s : State) (x : Rp2) (w : Word) :
    (writeRp2 s x w).f = if x = .af then Flags.unpack (loByte w) else s.f := by
  cases x <;> rfl

end WordMoves

/-- Settles O39: the destination written with the source's value of before. -/
theorem registerLoads : Obligations.RegisterLoads := by
  unfold Obligations.RegisterLoads
  refine ⟨fun row hrow s => ?_, fun row hrow d8 s => ?_⟩
  · obtain ⟨hform, hdst⟩ := form_of_mem_loadRows row hrow
    obtain ⟨hvalue, hf, hothers, hsp, hpc, honly⟩ := register_replaced (s := s) (n := 1) hdst rfl
    exact ⟨_, exec_of_form_ld8 hform s, hvalue, hothers, hf, hsp, hpc, honly⟩
  · obtain ⟨hform, hdst⟩ := form_of_mem_loadImmRows d8 row hrow
    obtain ⟨hvalue, hf, hothers, hsp, hpc, honly⟩ := register_replaced (s := s) (n := 2) hdst rfl
    exact ⟨_, exec_of_form_ldImm8 hform s, hvalue, hothers, hf, hsp, hpc, honly⟩

/-- Settles O40: every form is a load of A from the address its operand names. -/
theorem loadsOfA : Obligations.LoadsOfA := by
  unfold Obligations.LoadsOfA
  refine ⟨loadsA_of_exec (n := 1) fun _ => rfl, loadsA_of_exec (n := 1) fun _ => rfl, fun a16 => loadsA_of_exec (n := 3) fun _ => rfl,
    loadsA_of_exec (n := 1) fun s => ?_, fun a8 => loadsA_of_exec (n := 2) fun s => ?_, loadAHl_spec (step := 1) fun _ => rfl,
    loadAHl_spec (step := -1) fun _ => rfl⟩
  · rw [← highPage_eq]; rfl
  · rw [← highPage_eq]; rfl

/-- Settles O41: every form is a `write8` at the address its operand names. -/
theorem byteStores : Obligations.ByteStores := by
  unfold Obligations.ByteStores
  refine ⟨fun row hrow => storesByte_of_form (form_of_mem_storeRows row hrow), fun d8 => storesByte_of_exec (n := 2) fun _ => rfl,
    storesByte_of_exec (n := 1) fun _ => rfl, storesByte_of_exec (n := 1) fun _ => rfl,
    fun a16 => storesByte_of_exec (n := 3) fun _ => rfl, storesByte_of_exec (n := 1) fun s => ?_,
    fun a8 => storesByte_of_exec (n := 2) fun s => ?_, storesAndMoves_of_exec (step := 1) fun _ => rfl,
    storesAndMoves_of_exec (step := -1) fun _ => rfl⟩
  · rw [← highPage_eq]; rfl
  · rw [← highPage_eq]; rfl

/-- Settles O42: a pair or SP written; the sum with SP by `add_sp`. -/
theorem wordLoads : Obligations.WordLoads := by
  unfold Obligations.WordLoads
  refine ⟨fun row hrow d16 s => ?_, fun s => ⟨_, rfl, rfl, read8_of_withCpu s rfl⟩,
    fun e8 s => ⟨((s.advance 2).setHl (addSp s.sp e8).1).setFlags (addSp s.sp e8).2, rfl, ?_, rfl, read8_of_withCpu s rfl⟩⟩
  · refine ⟨writeRp (s.advance 3) row.2 d16, ?_, pair_written rfl⟩
    rw [exec_eq_formMeaning, form_of_mem_loadPairRows d16 row hrow]; rfl
  · have hhl : (((s.advance 2).setHl (addSp s.sp e8).1).setFlags (addSp s.sp e8).2).hl = (addSp s.sp e8).1 :=
      State.setHl_hl (s.advance 2) (addSp s.sp e8).1
    rw [hhl]
    exact addSp_result s.sp e8

/-- Settles O43: a `write16` at the operand word, PC apart. -/
theorem storeOfSp : Obligations.StoreOfSp := by
  unfold Obligations.StoreOfSp
  intro a16 s hm
  have hbus : write16 (s.advance 3) a16 s.sp = (write16 s a16 s.sp).withCpu (s.advance 3) := by
    rw [← State.withCpu_advance, write16_withCpu, State.withCpu_advance]
  refine ⟨write16 (s.advance 3) a16 s.sp, rfl, ?_, ?_, by simp, by simp, ?_⟩
  · rw [hbus]; exact wordStored_withCpu (write16_wordStored hm _ _) _
  · simp [SameProcessor]
  · rw [hbus, ← write16_keeps_cpu s a16 s.sp]; rfl

/-- Settles O44: a push is the word store below SP; a pop splits the word read at SP into the pair. -/
theorem pushesAndPops : Obligations.PushesAndPops := by
  unfold Obligations.PushesAndPops
  refine ⟨fun row hrow s hm => pushes_of_form hm (form_of_mem_pushRows row hrow), fun row hrow s => ?_⟩
  obtain ⟨hhi, hlo⟩ := popWord_bytes s
  have hexec : exec row.1 s = .next (writeRp2 (popState (s.advance 1)) row.2 (popWord s)) := by
    rw [exec_eq_formMeaning, form_of_mem_popRows row hrow]; rfl
  refine ⟨_, hexec, ?_, ?_, fun y hy => ?_, ?_, ?_, ?_, ?_⟩
  · rw [readRp2_writeRp2, ← hhi]; exact hiByte_pairWord _ _
  · rw [readRp2_writeRp2, ← hlo]; exact loByte_pairWord _ _
  · rw [readRp2_writeRp2_other _ _ hy]; exact readRp2_advance s 1 y
  · rw [writeRp2_f, hlo]; rfl
  · rw [writeRp2_sp]; rfl
  · rw [writeRp2_pc]; rfl
  · obtain ⟨honly, hread⟩ := writeRp2_only (popState (s.advance 1)) row.2 (popWord s)
    refine ⟨?_, fun addr => (hread addr).trans (read8_of_withCpu s rfl addr)⟩
    rw [honly]; rfl

end Sys2Proof.Machine
end

section
/-! The arithmetic, logic, rotate and bit instructions: each primitive in plain arithmetic, and what an instruction does with its answer
(40_alu_primitives.md, 43_alu8.md, 44_alu16.md, 45_rotate_bit.md). -/

namespace Sys2Proof.Machine
open Sys2Proof.Stmt

section AluPrimitivesInPlainArithmetic

/-! ### The 8-bit operations of A (R131-R138) -/

/-- The new A and flags of an 8-bit operation; CP keeps A (R135). -/
def aluAnswer (op : AluOp) (a v : Byte) (c : Bool) : Byte × Flags :=
  match op with
  | .add => add8 a v
  | .adc => adc8 a v c
  | .sub => sub8 a v
  | .sbc => sbc8 a v c
  | .and => and8 a v
  | .xor => xor8 a v
  | .or => or8 a v
  | .cp => (a, cp8 a v)

theorem aluMeaning_eq_setAcc (op : AluOp) (v : Byte) (n : Nat) (s : State) :
    aluMeaning op v n s = setAcc (aluAnswer op s.a v s.f.c) n s := by cases op <;> rfl

theorem toNat_eq_bitNat (c : Bool) : c.toNat = bitNat c := by cases c <;> rfl

theorem adc8_binaryResult (a v : Byte) (c : Bool) : BinaryResult .adc a v c (adc8 a v c).1 (adc8 a v c).2 := by
  rw [adc8, toNat_eq_bitNat]
  exact ⟨BitVec.toNat_ofNat _ _, rfl⟩

theorem sub8_binaryResult (a v : Byte) (c : Bool) : BinaryResult .sub a v c (sub8 a v).1 (sub8 a v).2 := by
  have hv := v.isLt
  refine ⟨?_, rfl⟩
  rw [sub8, BitVec.toNat_sub]
  omega

theorem sbc8_binaryResult (a v : Byte) (c : Bool) : BinaryResult .sbc a v c (sbc8 a v c).1 (sbc8 a v c).2 := by
  have hv := v.isLt
  have hc := bitNat_le_one c
  rw [sbc8, toNat_eq_bitNat]
  refine ⟨?_, rfl⟩
  rw [BitVec.toNat_ofInt]
  omega

/-- CP's Z, the difference being 0, says that the operands are equal. -/
theorem cp8_binaryResult (a v : Byte) (c : Bool) : BinaryResult .cp a v c a (cp8 a v) := by
  refine ⟨rfl, ?_⟩
  rw [cp8, sub8, decide_eq_decide.mpr (sub_eq_zero (a := a) (b := v))]

theorem aluAnswer_binaryResult (op : AluOp) (a v : Byte) (c : Bool) :
    BinaryResult op a v c (aluAnswer op a v c).1 (aluAnswer op a v c).2 := by
  cases op with
  | add => exact add8_binaryResult a v c
  | adc => exact adc8_binaryResult a v c
  | sub => exact sub8_binaryResult a v c
  | sbc => exact sbc8_binaryResult a v c
  | and => exact ⟨fun _ _ => BitVec.getLsbD_and, rfl⟩
  | xor => exact ⟨fun _ _ => BitVec.getLsbD_xor, rfl⟩
  | or => exact ⟨fun _ _ => BitVec.getLsbD_or, rfl⟩
  | cp => exact cp8_binaryResult a v c

/-! ### INC, DEC (R139, R140) -/

theorem inc8_result (v : Byte) (f : Flags) : IncResult v f (inc8 v f.c).1 (inc8 v f.c).2 := by
  have hsum : (v + 1).toNat = (v.toNat + 1) % 256 := BitVec.toNat_add v 1
  refine ⟨hsum, ?_⟩
  rw [inc8, decide_eq_decide.mpr (by omega : (v + 1).toNat % 16 = 0 ↔ v.toNat % 16 = 0xF)]

theorem dec8_result (v : Byte) (f : Flags) : DecResult v f (dec8 v f.c).1 (dec8 v f.c).2 := by
  have hdiff : (v - 1).toNat = (255 + v.toNat) % 256 := BitVec.toNat_sub v 1
  rw [Nat.add_comm] at hdiff
  refine ⟨hdiff, ?_⟩
  rw [dec8, decide_eq_decide.mpr (by omega : (v - 1).toNat % 16 = 0xF ↔ v.toNat % 16 = 0)]

/-! ### DAA, CPL (R145, R146) -/

/-- The adjustment byte: 0x06 and 0x60 share no bit, so their OR is their sum. -/
theorem daaAdj_toNat (a : Byte) (n h c : Bool) : (daaAdj a n h c).toNat = daaAdjust a.toNat n h c := by
  have hlow : daaLow a n h = true ↔ h = true ∨ (n = false ∧ a.toNat % 16 > 0x09) := by simp [daaLow]
  have hhigh : daaHigh a n c = true ↔ c = true ∨ (n = false ∧ a.toNat > 0x99) := by simp [daaHigh]
  rw [daaAdj, daaAdjust]
  simp only [hlow, hhigh]
  split <;> split <;> rfl

theorem daa_toNat (a : Byte) (n h c : Bool) : (daa a n h c).1.toNat =
    (if n then 256 + a.toNat - daaAdjust a.toNat n h c else a.toNat + daaAdjust a.toNat n h c) % 256 := by
  have hadj := (daaAdj a n h c).isLt
  rw [← daaAdj_toNat]
  cases n
  · exact BitVec.toNat_add _ _
  · simp only [daa, if_true, BitVec.toNat_sub]
    omega

/-- All bits inverted: the distance to 255. -/
theorem cpl_toNat (a : Byte) (f : Flags) : (cpl a f).1.toNat = 255 - a.toNat := by
  have hnot : (cpl a f).1 = ~~~a := BitVec.xor_allOnes
  rw [hnot, BitVec.toNat_not]

/-! ### Rotates and shifts (R149-R156) -/

theorem eq_decide_bitNat (b : Bool) : b = decide (bitNat b = 1) := by cases b <;> rfl

/-- The bit that a rotate or shift to the left moves out. -/
theorem getLsbD_seven (v : Byte) : v.getLsbD 7 = decide (128 ≤ v.toNat) := by
  have hv := v.isLt
  rw [eq_decide_bitNat (v.getLsbD 7), bitNat_getLsbD, decide_eq_decide]
  omega

/-- The bit that a rotate or shift to the right moves out. -/
theorem getLsbD_zero (v : Byte) : v.getLsbD 0 = decide (v.toNat % 2 = 1) := by
  rw [eq_decide_bitNat (v.getLsbD 0), bitNat_getLsbD, Nat.pow_zero, Nat.div_one]

/-- The value of one bit, cut out of its byte. -/
theorem toNat_and_bit (k : Fin 8) (v : Byte) : (v &&& (1#8 <<< k.val)).toNat = v.toNat / 2 ^ k.val % 2 * 2 ^ k.val := by
  have hmask : ∀ k : Fin 8, (1#8 <<< k.val).toNat = 2 ^ k.val := by decide
  rw [BitVec.toNat_and, hmask, Nat.and_two_pow, Nat.toNat_testBit]

theorem sra_toNat (v : Byte) : (sra v).1.toNat = v.toNat / 2 + v.toNat / 128 * 128 := by
  have hv := v.isLt
  have hlo : (v >>> 1).toNat = v.toNat / 2 := by rw [BitVec.toNat_ushiftRight, Nat.shiftRight_eq_div_pow]
  have hhi : (v &&& 0x80).toNat = v.toNat / 128 * 128 := by
    have h := toNat_and_bit 7 v
    have hbit : v.toNat / 2 ^ (7 : Fin 8).val % 2 = v.toNat / 128 := by change v.toNat / 128 % 2 = _; omega
    rw [hbit] at h
    exact h
  rw [← hhi, ← hlo, Nat.add_comm]
  exact (congrArg BitVec.toNat (BitVec.or_comm _ _)).trans (toNat_or_of_disjoint 7 (by omega) (by omega))

theorem rlc_toNat (v : Byte) : (rlc v).1.toNat = v.toNat * 2 % 256 + v.toNat / 128 := by
  have hv := v.isLt
  rw [rlc_eq_rl, rl_toNat, bitNat_getLsbD]
  omega

theorem rrc_toNat (v : Byte) : (rrc v).1.toNat = v.toNat / 2 + v.toNat % 2 * 128 := by
  rw [rrc_eq_rr, rr_toNat, bitNat_getLsbD, Nat.pow_zero, Nat.div_one]

theorem sla_toNat (v : Byte) : (sla v).1.toNat = v.toNat * 2 % 256 := by
  rw [sla, BitVec.toNat_shiftLeft, Nat.shiftLeft_eq]

theorem srl_toNat (v : Byte) : (srl v).1.toNat = v.toNat / 2 := by
  rw [srl, BitVec.toNat_ushiftRight, Nat.shiftRight_eq_div_pow]

theorem rotResult_rotateResult (op : RotOp) (v : Byte) (c : Bool) :
    RotateResult op v c (rotResult op v c).1 (rotResult op v c).2 := by
  cases op with
  | rlc => exact ⟨rfl, rfl, rfl, rlc_toNat v, getLsbD_seven v⟩
  | rrc => exact ⟨rfl, rfl, rfl, rrc_toNat v, getLsbD_zero v⟩
  | rl => exact ⟨rfl, rfl, rfl, rl_toNat v c, getLsbD_seven v⟩
  | rr => exact ⟨rfl, rfl, rfl, rr_toNat v c, getLsbD_zero v⟩
  | sla => exact ⟨rfl, rfl, rfl, sla_toNat v, getLsbD_seven v⟩
  | sra => exact ⟨rfl, rfl, rfl, sra_toNat v, getLsbD_zero v⟩
  | swap => exact ⟨rfl, rfl, rfl, swapNibbles_toNat v, rfl⟩
  | srl => exact ⟨rfl, rfl, rfl, srl_toNat v, getLsbD_zero v⟩

/-! ### RES, SET (R158, R159): a byte is the bits under a mask and the bits beside it -/

theorem toNat_eq_beside_add_under (m v : Byte) : v.toNat = (v &&& ~~~m).toNat + (v &&& m).toNat := by
  have hdisjoint : (v &&& ~~~m) &&& (v &&& m) = 0#8 := by ext; simp; tauto
  have hwhole : (v &&& ~~~m) ||| (v &&& m) = v := by ext; simp [← Bool.and_or_distrib_left]
  rw [← BitVec.toNat_add_of_and_eq_zero hdisjoint, BitVec.add_eq_or_of_and_eq_zero _ _ hdisjoint, hwhole]

theorem toNat_or_eq_beside_add (m v : Byte) : (v ||| m).toNat = (v &&& ~~~m).toNat + m.toNat := by
  have hbeside : (v ||| m) &&& ~~~m = v &&& ~~~m := by ext; simp [Bool.and_or_distrib_right]
  have hunder : (v ||| m) &&& m = m := by ext; simp; tauto
  rw [toNat_eq_beside_add_under m (v ||| m), hbeside, hunder]

theorem resBit_result (k : Fin 8) (v : Byte) (f : Flags) : ResResult k v f (resBit k v) f := by
  refine ⟨?_, rfl⟩
  have hsplit := toNat_eq_beside_add_under (1#8 <<< k.val) v
  rw [toNat_and_bit] at hsplit
  rw [resBit]
  omega

theorem setBit_result (k : Fin 8) (v : Byte) (f : Flags) : SetResult k v f (setBit k v) f := by
  refine ⟨?_, rfl⟩
  have hmask : (1#8 <<< k.val).toNat = 2 ^ k.val := by revert k; decide
  have hsplit := toNat_eq_beside_add_under (1#8 <<< k.val) v
  rw [toNat_and_bit] at hsplit
  rw [setBit, toNat_or_eq_beside_add, hmask]
  rcases Nat.mod_two_eq_zero_or_one (v.toNat / 2 ^ k.val) with hbit | hbit
  · rw [hbit] at hsplit ⊢; omega
  · rw [hbit] at hsplit ⊢; omega

end AluPrimitivesInPlainArithmetic

section OperandReplaced
variable {i : Instr} {op : AluOp} {x : R8} {rr : Rp} {k : Fin 8} {n : Nat}

/-! ### What an instruction does with the answer -/

theorem operates_of_form_alu (h : i.form = .alu op x) : Operates op i 1 fun s => readR8 s x :=
  operates_of_exec_eq_setAcc (n := 1) (answer := fun s => aluAnswer op s.a (readR8 s x) s.f.c)
    (fun s => by rw [exec_eq_formMeaning, h, formMeaning, aluMeaning_eq_setAcc]) fun _ => aluAnswer_binaryResult _ _ _ _

theorem operates_of_form_aluImm {d8 : Byte} (h : i.form = .aluImm op d8) : Operates op i 2 fun _ => d8 :=
  operates_of_exec_eq_setAcc (n := 2) (answer := fun s => aluAnswer op s.a d8 s.f.c)
    (fun s => by rw [exec_eq_formMeaning, h, formMeaning, aluMeaning_eq_setAcc]) fun _ => aluAnswer_binaryResult _ _ _ _

/-- The rows of a table, if they are the forms of one operation, are that operation of their operands. -/
theorem operates_of_mem {rows : List (Instr × R8)} (h : ∀ row ∈ rows, row.1.form = .alu op row.2) :
    ∀ row ∈ rows, Operates op row.1 1 fun s => readR8 s row.2 :=
  fun row hrow => operates_of_form_alu (h row hrow)

theorem write8_advance_setFlags (s : State) (n : Nat) (addr : Word) (v : Byte) (g : Flags) :
    (write8 (s.advance n) addr v).setFlags g = { write8 s addr v with f := g, pc := s.pc + BitVec.ofNat 16 n } := by
  rw [write8_advance_eq]; rfl

/-- An instruction that writes an answer about its operand back to the operand and the flags replaces the operand by it. -/
theorem replaces_of_exec {answer : Byte → Flags → Byte × Flags} {result : Byte → Flags → Byte → Flags → Prop}
    (hexec : ∀ s, exec i s =
      .next ((writeR8 (s.advance n) x (answer (readR8 s x) s.f).1).setFlags (answer (readR8 s x) s.f).2))
    (hresult : ∀ v f, result v f (answer v f).1 (answer v f).2) : Replaces i (BitVec.ofNat 16 n) x result := by
  refine ⟨fun hx s => ?_, ?_⟩
  · obtain ⟨hvalue, hf, hothers, hsp, hpc, honly⟩ := register_replaced (s := s) (n := n) hx rfl
    refine ⟨_, hexec s, ?_, hothers, hsp, hpc, honly⟩
    rw [hvalue, hf]
    exact hresult _ _
  · rintro rfl s hm
    refine ⟨_, (answer (read8 s s.hl) s.f).1, hexec s, hresult _ _, ?_, ?_, ?_, ?_, ?_⟩
    · have hbus : (write8 (s.advance n) s.hl (answer (read8 s s.hl) s.f).1).setFlags (answer (read8 s s.hl) s.f).2 =
          (write8 s s.hl (answer (read8 s s.hl) s.f).1).withCpu ((s.advance n).setFlags (answer (read8 s s.hl) s.f).2) := by
        rw [write8_advance_eq, ← write8_keeps_cpu s s.hl]; rfl
      exact hbus ▸ byteStored_withCpu (write8_byteStored hm _ _) _
    · simp [SameProcessor, writeR8]
    · simp
    · simp
    · exact write8_advance_setFlags s n s.hl _ _

theorem form_of_mem_incRows : ∀ row ∈ incRows, row.1.form = .inc8 row.2 := by decide

theorem form_of_mem_decRows : ∀ row ∈ decRows, row.1.form = .dec8 row.2 := by decide

theorem form_of_mem_rotRows : ∀ row ∈ rotRows, row.1.form = .cb (.rot row.2.1 row.2.2) := by decide

theorem form_of_mem_resRows : ∀ row ∈ resRows, row.1.form = .cb (.res row.2.1 row.2.2) := by decide

theorem form_of_mem_setRows : ∀ row ∈ setRows, row.1.form = .cb (.set row.2.1 row.2.2) := by decide

theorem replaces_of_form_inc8 (h : i.form = .inc8 x) : Replaces i 1 x IncResult :=
  replaces_of_exec (n := 1) (answer := fun v f => inc8 v f.c) (fun s => by rw [exec_eq_formMeaning, h]; rfl) inc8_result

theorem replaces_of_form_dec8 (h : i.form = .dec8 x) : Replaces i 1 x DecResult :=
  replaces_of_exec (n := 1) (answer := fun v f => dec8 v f.c) (fun s => by rw [exec_eq_formMeaning, h]; rfl) dec8_result

theorem replaces_of_form_rot {op : RotOp} (h : i.form = .cb (.rot op x)) :
    Replaces i 2 x fun v f r g => RotateResult op v f.c r g :=
  replaces_of_exec (n := 2) (answer := fun v f => rotResult op v f.c) (fun s => by rw [exec_eq_formMeaning, h]; rfl)
    fun v f => rotResult_rotateResult op v f.c

theorem replaces_of_form_res (h : i.form = .cb (.res k x)) : Replaces i 2 x (ResResult k) :=
  replaces_of_exec (n := 2) (answer := fun v f => (resBit k v, f))
    (fun s => by rw [exec_eq_formMeaning, h, ← writeR8_eq_setFlags]; rfl) (resBit_result k)

theorem replaces_of_form_set (h : i.form = .cb (.set k x)) : Replaces i 2 x (SetResult k) :=
  replaces_of_exec (n := 2) (answer := fun v f => (setBit k v, f))
    (fun s => by rw [exec_eq_formMeaning, h, ← writeR8_eq_setFlags]; rfl) (setBit_result k)

/-- The accumulator rotates and the CB operations they are built on (R160). -/
theorem exec_of_mem_rotARows : ∀ row ∈ rotARows, ∀ s, exec row.1 s = setAcc (clearZ (rotResult row.2 s.a s.f.c)) 1 s := by
  intro row hrow
  simp only [rotARows, List.mem_cons, List.not_mem_nil, or_false] at hrow
  rcases hrow with rfl | rfl | rfl | rfl <;> exact fun _ => rfl

theorem form_of_mem_addHlRows : ∀ row ∈ addHlRows, row.1.form = .addHl row.2 := by decide

theorem form_of_mem_incPairRows : ∀ row ∈ incPairRows, row.1.form = .inc16 row.2 := by decide

theorem form_of_mem_decPairRows : ∀ row ∈ decPairRows, row.1.form = .dec16 row.2 := by decide

/-- A pair replaced by `g` of it in one byte: all else is as before. -/
theorem pair_replaced {g : Word → Word} (s : State) (h : exec i s = .next (writeRp (s.advance 1) rr (g (readRp s rr)))) :
    ∃ t, exec i s = .next t ∧ (readRp t rr).toNat = (g (readRp s rr)).toNat ∧ (∀ y, y ≠ rr → readRp t y = readRp s y) ∧
      t.a = s.a ∧ t.f = s.f ∧ t.pc = s.pc + 1 ∧ OnlyRegisters s t := by
  obtain ⟨hvalue, hrest⟩ := pair_written (s := s) (n := 1) (x := rr) (w := g (readRp s rr)) rfl
  exact ⟨_, h, congrArg BitVec.toNat hvalue, hrest⟩

end OperandReplaced

/-- Settles O46: each of the 36 instructions writes its primitive's answer to A and the flags. -/
theorem carryAndBorrowArithmetic : Obligations.CarryAndBorrowArithmetic := by
  unfold Obligations.CarryAndBorrowArithmetic
  exact ⟨⟨operates_of_mem (by decide), fun _ => operates_of_form_aluImm rfl⟩,
    ⟨operates_of_mem (by decide), fun _ => operates_of_form_aluImm rfl⟩,
    ⟨operates_of_mem (by decide), fun _ => operates_of_form_aluImm rfl⟩,
    ⟨operates_of_mem (by decide), fun _ => operates_of_form_aluImm rfl⟩⟩

/-- Settles O47: each of the 27 instructions writes its primitive's answer to A and the flags. -/
theorem logicOperations : Obligations.LogicOperations := by
  unfold Obligations.LogicOperations
  exact ⟨⟨operates_of_mem (by decide), fun _ => operates_of_form_aluImm rfl⟩,
    ⟨operates_of_mem (by decide), fun _ => operates_of_form_aluImm rfl⟩,
    ⟨operates_of_mem (by decide), fun _ => operates_of_form_aluImm rfl⟩⟩

/-- Settles O48: the operand and the flags replaced by the answer of `inc8` or `dec8`. -/
theorem incrementsAndDecrements : Obligations.IncrementsAndDecrements := by
  unfold Obligations.IncrementsAndDecrements
  exact ⟨fun row hrow => replaces_of_form_inc8 (form_of_mem_incRows row hrow),
    fun row hrow => replaces_of_form_dec8 (form_of_mem_decRows row hrow)⟩

/-- Settles O49: A and the flags written by the primitive's answer. -/
theorem accumulatorAdjusts : Obligations.AccumulatorAdjusts := by
  unfold Obligations.AccumulatorAdjusts
  exact fun s => ⟨⟨_, rfl, daa_toNat _ _ _ _, rfl, rfl, read8_of_withCpu s rfl⟩,
    ⟨_, rfl, cpl_toNat s.a s.f, rfl, rfl, read8_of_withCpu s rfl⟩, ⟨_, rfl, rfl, rfl, rfl, read8_of_withCpu s rfl⟩,
    ⟨_, rfl, rfl, rfl, rfl, read8_of_withCpu s rfl⟩⟩

/-- Settles O50: HL, SP or a pair written by the answer of its primitive. -/
theorem wordArithmetic : Obligations.WordArithmetic := by
  unfold Obligations.WordArithmetic
  refine ⟨fun row hrow s => ?_, fun e8 s => ⟨_, rfl, addSp_result s.sp e8, rfl, read8_of_withCpu s rfl⟩,
    fun row hrow s => ?_, fun row hrow s => ?_⟩
  · have hexec : exec row.1 s = addHlRp row.2 s := by rw [exec_eq_formMeaning, form_of_mem_addHlRows row hrow]; rfl
    refine ⟨_, hexec, ?_, rfl, rfl, read8_of_withCpu s rfl⟩
    exact (congrArg BitVec.toNat (State.setHl_hl (s.advance 1) _)).trans (BitVec.toNat_add _ _)
  · have hexec : exec row.1 s = incRp row.2 s := by rw [exec_eq_formMeaning, form_of_mem_incPairRows row hrow]; rfl
    obtain ⟨t, ht, hvalue, hrest⟩ := pair_replaced s hexec
    exact ⟨t, ht, hvalue.trans (BitVec.toNat_add _ _), hrest⟩
  · have hexec : exec row.1 s = decRp row.2 s := by rw [exec_eq_formMeaning, form_of_mem_decPairRows row hrow]; rfl
    obtain ⟨t, ht, hvalue, hrest⟩ := pair_replaced s hexec
    refine ⟨t, ht, hvalue.trans ?_, hrest⟩
    rw [dec16, BitVec.toNat_sub, Nat.add_comm]; rfl

/-- Settles O51: the CB operation's answer with Z cleared, written to A and the flags. -/
theorem accumulatorRotates : Obligations.AccumulatorRotates := by
  unfold Obligations.AccumulatorRotates
  intro row hrow s
  refine ⟨_, exec_of_mem_rotARows row hrow s, rfl, ?_, rfl, read8_of_withCpu s rfl⟩
  obtain ⟨-, hn, hh, hresult⟩ := rotResult_rotateResult row.2 s.a s.f.c
  exact ⟨rfl, hn, hh, hresult⟩

/-- Settles O52: the operand and the flags replaced by the answer of the primitive. -/
theorem rotatesAndShifts : Obligations.RotatesAndShifts := by
  unfold Obligations.RotatesAndShifts
  exact fun row hrow => replaces_of_form_rot (form_of_mem_rotRows row hrow)

/-- Settles O54: the operand replaced, the flags written by themselves. -/
theorem bitResetsAndSets : Obligations.BitResetsAndSets := by
  unfold Obligations.BitResetsAndSets
  exact ⟨fun row hrow => replaces_of_form_res (form_of_mem_resRows row hrow),
    fun row hrow => replaces_of_form_set (form_of_mem_setRows row hrow)⟩

end Sys2Proof.Machine
end

section
/-! The instructions that move PC, and the system instructions: where each goes, what it pushes or pops, and what it leaves alone
(46_control.md, 47_system.md). -/

namespace Sys2Proof.Machine
open Sys2Proof.Stmt

section ControlTransfers
variable {s : State} {i : Instr} {w target : Word} {n : Nat}

/-! ### The rows of the tables by their forms -/

theorem form_of_mem_jumpIfRows (a16 : Word) : ∀ row ∈ jumpIfRows, (row.1 a16).form = .jpCc row.2 a16 := by
  intro row hrow
  simp only [jumpIfRows, List.mem_cons, List.not_mem_nil, or_false] at hrow
  rcases hrow with rfl | rfl | rfl | rfl <;> rfl

theorem form_of_mem_jumpRelIfRows (e8 : Byte) : ∀ row ∈ jumpRelIfRows, (row.1 e8).form = .jrCc row.2 e8 := by
  intro row hrow
  simp only [jumpRelIfRows, List.mem_cons, List.not_mem_nil, or_false] at hrow
  rcases hrow with rfl | rfl | rfl | rfl <;> rfl

theorem form_of_mem_callIfRows (a16 : Word) : ∀ row ∈ callIfRows, (row.1 a16).form = .callCc row.2 a16 := by
  intro row hrow
  simp only [callIfRows, List.mem_cons, List.not_mem_nil, or_false] at hrow
  rcases hrow with rfl | rfl | rfl | rfl <;> rfl

theorem form_of_mem_returnIfRows : ∀ row ∈ returnIfRows, row.1.form = .retCc row.2 := by decide

/-- The vector of a restart is its field times 8 (R310). -/
theorem form_of_mem_rstRows : ∀ row ∈ rstRows, ∃ y, row.1.form = .rst y ∧ BitVec.ofNat 16 (y.val * 8) = row.2 := by decide

/-! ### Jumps -/

theorem goesTo_of_exec (h : exec i s = jump target s) : GoesTo i s target := ⟨_, h, rfl, read8_of_withCpu s rfl⟩

/-- A conditional transfer that is not taken is a jump to the next address. -/
theorem goesTo_next_of_exec (h : exec i s = .next (s.advance n)) : GoesTo i s (s.pc + BitVec.ofNat 16 n) := goesTo_of_exec h

/-- The target of a relative jump, as a number (R303). -/
theorem jumpRel_eq_jump (e8 : Byte) (s : State) : jumpRel e8 s = jump (BitVec.ofNat 16 (s.pc.toNat + 2 + displacement e8)) s := by
  have htarget : (s.advance 2).pc + sext16 e8 = BitVec.ofNat 16 (s.pc.toNat + 2 + displacement e8) := by
    apply BitVec.eq_of_toNat_eq
    rw [BitVec.toNat_add, sext16_toNat, State.advance_pc, BitVec.toNat_add, BitVec.toNat_ofNat, BitVec.toNat_ofNat]
    omega
  rw [jumpRel, htarget, jump]

/-! ### Calls -/

/-- A push of the address after an instruction of `n` bytes that then goes to the target. -/
theorem callsTo_of_exec (hm : s.memoryOk = true) (h : exec i s = .next { push16 s (s.advance n).pc with pc := target }) :
    CallsTo i s (BitVec.ofNat 16 n) target := pushes_of_exec hm h

/-! ### Returns -/

theorem popWord_toNat (s : State) : (popWord s).toNat = (read8 s (s.sp + 1)).toNat * 256 + (read8 s s.sp).toNat := pairWord_toNat _ _

theorem returns_of_exec (h : exec i s = returnTo s) : Returns i s := ⟨_, h, popWord_toNat s, rfl, rfl, read8_of_withCpu s rfl⟩

end ControlTransfers

/-- Settles O55: a jump writes PC; a conditional one is that jump or the step to the next address. -/
theorem jumps : Obligations.Jumps := by
  unfold Obligations.Jumps
  refine ⟨fun a16 s => goesTo_of_exec rfl, fun s => goesTo_of_exec rfl, fun row hrow a16 s => ?_,
    fun e8 s => goesTo_of_exec (jumpRel_eq_jump e8 s), fun row hrow e8 s => ?_, fun f => ⟨rfl, rfl, rfl, rfl⟩⟩
  · have hexec : exec (row.1 a16) s = jumpIf row.2 a16 s := by
      rw [exec_eq_formMeaning, form_of_mem_jumpIfRows a16 row hrow]; rfl
    rw [jumpIf] at hexec
    by_cases hcond : condHolds s.f row.2
    · rw [if_pos hcond] at hexec ⊢; exact goesTo_of_exec hexec
    · rw [if_neg hcond] at hexec ⊢; exact goesTo_next_of_exec hexec
  · have hexec : exec (row.1 e8) s = jumpRelIf row.2 e8 s := by
      rw [exec_eq_formMeaning, form_of_mem_jumpRelIfRows e8 row hrow]; rfl
    rw [jumpRelIf, jumpRel_eq_jump] at hexec
    by_cases hcond : condHolds s.f row.2
    · rw [if_pos hcond] at hexec ⊢; exact goesTo_of_exec hexec
    · rw [if_neg hcond] at hexec ⊢; exact goesTo_next_of_exec hexec

/-- Settles O56: a call is the push of the next address with PC at the target. -/
theorem callsAndRestarts : Obligations.CallsAndRestarts := by
  unfold Obligations.CallsAndRestarts
  intro s hm
  refine ⟨fun a16 => callsTo_of_exec (n := 3) hm rfl, fun row hrow a16 => ?_, fun row hrow => ?_⟩
  · have hexec : exec (row.1 a16) s = callIf row.2 a16 s := by
      rw [exec_eq_formMeaning, form_of_mem_callIfRows a16 row hrow]; rfl
    rw [callIf] at hexec
    by_cases hcond : condHolds s.f row.2
    · rw [if_pos hcond] at hexec ⊢; exact callsTo_of_exec (n := 3) hm hexec
    · rw [if_neg hcond] at hexec ⊢; exact goesTo_next_of_exec hexec
  · obtain ⟨y, hform, hvector⟩ := form_of_mem_rstRows row hrow
    refine callsTo_of_exec (n := 1) hm ?_
    rw [exec_eq_formMeaning, hform, ← hvector]; rfl

/-- Settles O57: a return writes PC with the word popped. -/
theorem returnsPopPc : Obligations.ReturnsPopPc := by
  unfold Obligations.ReturnsPopPc
  refine fun s => ⟨returns_of_exec rfl, fun row hrow => ?_, ⟨_, rfl, popWord_toNat s, rfl, read8_of_withCpu s rfl⟩⟩
  have hexec : exec row.1 s = returnIf row.2 s := by rw [exec_eq_formMeaning, form_of_mem_returnIfRows row hrow]; rfl
  rw [returnIf] at hexec
  by_cases hcond : condHolds s.f row.2
  · rw [if_pos hcond] at hexec ⊢; exact returns_of_exec hexec
  · rw [if_neg hcond] at hexec ⊢; exact goesTo_next_of_exec hexec

/-- Settles O58: each writes its control bit and PC alone. -/
theorem systemInstructions : Obligations.SystemInstructions := by
  unfold Obligations.SystemInstructions
  exact fun s => ⟨⟨_, rfl, rfl, read8_of_withCpu s rfl⟩, ⟨_, rfl, rfl, read8_of_withCpu s rfl⟩,
    ⟨_, rfl, rfl, read8_of_withCpu s rfl⟩, fun _ => ⟨_, rfl, rfl, read8_of_withCpu s rfl⟩⟩

end Sys2Proof.Machine
end
